-- ==== Sys2Proof/Word.lean ====
section
/-! DEFINITION. The two word types of the CORE: the byte of the streams and the buffer, and the 16-bit CRC number. -/

namespace Sys2Proof

/-- A byte: 8 bits, bit 7 most significant (R12, R41). -/
abbrev Byte := BitVec 8

/-- A 16-bit unsigned number: the CRC register and result (R80), and the identifier operand's carrier (R100). -/
abbrev Word := BitVec 16

end Sys2Proof
end

