-- ==== Sys2Proof/Config.lean ====
section
/-! DEFINITION. What an implementation fixes (R10, R33): constants of the source, the two open parameters, and the free
values, which have no body so that nothing can be proved of them. -/

namespace Sys2Proof

/-- The two values D1 leaves open for `CRC_INIT` (R10, R80, C2). -/
inductive CrcInit where
  /-- `0xFFFF`, the default. -/
  | ffff
  /-- `0x0000`, the alternative. -/
  | zero
deriving DecidableEq, Repr

/-- The open parameters of one instance, fixed before reset and written by no operation (R81, R191).
DESIGN CHOICE, safe: they stand in State so that a claim holds for every value; log entry 7. -/
structure Params where
  /-- `CRC_INIT` (R10, D1). -/
  crcInit : CrcInit
  /-- `RESYNC_CNT_W`, the width of the resync counter (R10, R24, D11). -/
  resyncW : Nat
deriving DecidableEq, Repr

namespace Config

/-- `MARKER`, byte 0 bits 7 to 3 (R10, R61). -/
def marker : BitVec 5 := 0b10101#5

/-- `FRAME_LEN` (R10). -/
def frameLen : Nat := 13

/-- `Q_CAP` (R10, R150). -/
def qCap : Nat := 5

/-- `DLC_MAX`: also the number of payload bytes of a frame (R10). -/
def dlcMax : Nat := 8

/-- Largest identifier `ENCODE` accepts, `ID_W = 11` bits (R10, R101). -/
def idMax : Word := 0x7FF#16

/-- `CRC_POLY_R`, the reflected polynomial (R10, R80). -/
def crcPolyR : Word := 0xA001#16

/-- `CRC_XOROUT` (R10, D2). -/
def crcXorOut : Word := 0x0000#16

/-- The spec's default parameters: `CRC_INIT = 0xFFFF`, `RESYNC_CNT_W = 16` (R10). -/
def defaults : Params := { crcInit := .ffff, resyncW := 16 }

/-- FREE VALUE (U10, D18): whether the timeout of a waiting `Q.POP timeout` has elapsed at draw `n`. Log entry 10. -/
opaque timeoutElapsed : Nat → Bool

/-- FREE VALUE (U15, D27): whether the diagnostic event of draw `n` reaches the optional sink. Log entry 11. -/
opaque sinkTakes : Nat → Bool

/-- FREE VALUE (U16, D34): how many bytes a read abandoned by `RESET` at draw `n` takes with it. Log entry 14. -/
opaque abandonedBytes : Nat → Nat

end Config

end Sys2Proof
end

