-- ==== Sys2Proof/Syntax.lean ====
section
/-! DEFINITION. The operations of the CORE as syntax: one constructor per row of spec/opcode_table.json (R60, R67), and the
data their operands are made of. -/

namespace Sys2Proof

/-- A 13-byte sequence in stream order, byte 0 first (R12, R60): a frame, or a window that may be one (R16).
Exactly 13 bytes, so that another length is not an operand of anything (R103). -/
structure Frame where
  b0 : Byte
  b1 : Byte
  b2 : Byte
  b3 : Byte
  b4 : Byte
  b5 : Byte
  b6 : Byte
  b7 : Byte
  b8 : Byte
  b9 : Byte
  b10 : Byte
  b11 : Byte
  b12 : Byte
deriving DecidableEq, Repr

/-- The fields of `FRAME13` in pattern order (R60, R66); the marker is fixed and is no field. -/
structure FrameFields where
  /-- identifier, 11 bits (R62) -/
  id : BitVec 11
  /-- remote-frame flag, byte 2 bit 7 (R63) -/
  r : Bool
  /-- extended-identifier flag, byte 2 bit 6 (R63) -/
  e : Bool
  /-- reserved, byte 2 bits 5 to 4 (R63, R69) -/
  rsvd : BitVec 2
  /-- data length code, byte 2 bits 3 to 0 (R63) -/
  dlc : BitVec 4
  /-- payload byte 0, frame byte 3 (R64) -/
  p0 : Byte
  p1 : Byte
  p2 : Byte
  p3 : Byte
  p4 : Byte
  p5 : Byte
  p6 : Byte
  p7 : Byte
  /-- CRC bits 7 to 0, byte 11 (R65) -/
  crcLo : Byte
  /-- CRC bits 15 to 8, byte 12 (R65) -/
  crcHi : Byte
deriving DecidableEq, Repr

/-- The mode of `Q.POP` and `RECV` (R152, R153). -/
inductive PopMode where
  | block
  | timeout
deriving DecidableEq, Repr

/-- Whether a pop is a new call or the next chance of a call that is already pending (R34 (d), R155).
DESIGN CHOICE, safe: log entry 9. -/
inductive Caller where
  | fresh
  | pending
deriving DecidableEq, Repr

/-- The transport's answer to `IsOpen()` (R44). DESIGN CHOICE, safe: an operand of the step; log entry 4. -/
inductive OpenAnswer where
  | isOpen
  | closed
deriving DecidableEq, Repr

/-- The transport's answer to `StreamRead` (R44): the next `k` bytes of the stream, or `ReadError`. -/
inductive ReadAnswer where
  | rx (k : Nat)
  | err
deriving DecidableEq, Repr

/-- The transport's answer to `StreamWrite` (R108). -/
inductive WriteAnswer where
  | success
  | writeError
deriving DecidableEq, Repr

/-- One constructor per row of spec/opcode_table.json. -/
inductive Instr where
  /-- FRAME13 (R60): the transport carries a 13-byte frame with these fields. Log entry 3. -/
  | frame13 (f : FrameFields)
  /-- RESET (R190) -/
  | reset
  /-- START (R121) -/
  | start
  /-- STOP (R127) -/
  | stop
  /-- CRC16 (R85) -/
  | crc16 (span : List Byte)
  /-- ENCODE (R100) -/
  | encodeMsg (identifier : Word) (isRemote isExtended : Bool) (payload : List Byte)
  /-- DECODE (R103) -/
  | decodeFrame (w : Frame)
  /-- Q.POP (R152, R153) -/
  | qPop (mode : PopMode) (caller : Caller)
  /-- SEND (R108) -/
  | send (identifier : Word) (isRemote isExtended : Bool) (answer : WriteAnswer) (payload : List Byte)
  /-- RECV (R109) -/
  | recv (mode : PopMode) (caller : Caller)
  /-- SYNC.CHECK (R122) -/
  | syncCheck (answer : OpenAnswer)
  /-- SYNC.READ (R123) -/
  | syncRead (answer : ReadAnswer)
  /-- SYNC.VALIDATE (R124) -/
  | syncValidate
  /-- SYNC.SHED (R125), a micro-operation -/
  | syncShed
  /-- SYNC.DELIVER (R126) -/
  | syncDeliver
  /-- CRC16.UPDATE (R82), a micro-operation -/
  | crc16Update (crc : Word) (b : Byte)
  /-- Q.PUSH (R151), a micro-operation -/
  | qPush (f : Frame)
deriving DecidableEq, Repr

/-- The micro-operations of R67: they happen only inside another operation's step. -/
def Instr.isMicro : Instr → Bool
  | .frame13 _ => false
  | .reset => false
  | .start => false
  | .stop => false
  | .crc16 _ => false
  | .encodeMsg _ _ _ _ => false
  | .decodeFrame _ => false
  | .qPop _ _ => false
  | .send _ _ _ _ _ => false
  | .recv _ _ => false
  | .syncCheck _ => false
  | .syncRead _ => false
  | .syncValidate => false
  | .syncShed => true
  | .syncDeliver => false
  | .crc16Update _ _ => true
  | .qPush _ => true

/-- Why the operands of an operation do not decode. -/
inductive OperandError where
  /-- the bytes end before the operand does -/
  | missing
  /-- an operand byte has a value that stands for nothing -/
  | reserved
deriving DecidableEq, Repr

/-- Why bytes decode to no operation, by name. -/
inductive DecodeError where
  /-- there is no byte at all -/
  | noBytes
  /-- the first byte carries neither the frame marker nor an operation label -/
  | unknownLabel (b : Byte)
  /-- the first byte is a label or a marker and what follows is no operand of it -/
  | operands (first : Byte) (why : OperandError)
deriving DecidableEq, Repr

end Sys2Proof
end

