-- ==== Sys2Proof/WellFormed.lean ====
section
/-! DEFINITION. The checks on an operation's syntax that its types do not already make. -/

namespace Sys2Proof

/-- A read answer is at most a whole window: the transport never returns more than it was asked for, and it is asked for
at most 13 bytes (R44, R202). -/
def ReadAnswer.wellFormed : ReadAnswer → Bool
  | .rx k => decide (k ≤ Config.frameLen)
  | .err => true

/-- Well-formed operations. Every other operand has a type that admits only its legal values. -/
def Instr.wellFormed : Instr → Bool
  | .frame13 _ => true
  | .reset => true
  | .start => true
  | .stop => true
  | .crc16 _ => true
  | .encodeMsg _ _ _ _ => true
  | .decodeFrame _ => true
  | .qPop _ _ => true
  | .send _ _ _ _ _ => true
  | .recv _ _ => true
  | .syncCheck _ => true
  | .syncRead a => a.wellFormed
  | .syncValidate => true
  | .syncShed => true
  | .syncDeliver => true
  | .crc16Update _ _ => true
  | .qPush _ => true

end Sys2Proof
end

