-- ==== Sys2Proof/Decode.lean ====
section
/-! DEFINITION. Bytes to operations and back. The spec gives two encodings: the wire frame `FRAME13` (R60 to R66) and the
sixteen 4-bit labels of R67. The operand bytes that follow a label are the model's own (DESIGN CHOICE, safe; log entry 2):
the hardware has no command word, and no meaning reads these bytes. -/

namespace Sys2Proof

/-! ## Fields of the frame -/

/-- CRC bits 7 to 0 (R86). -/
def lowByte (c : Word) : Byte := c.extractLsb' 0 8

/-- CRC bits 15 to 8 (R86). -/
def highByte (c : Word) : Byte := c.extractLsb' 8 8

/-- The 16-bit number of a low and a high byte, `lo or (hi << 8)` (R110). -/
def wordOfBytes (lo hi : Byte) : Word := hi ++ lo

/-- The 13 bytes of a frame with these fields (R60 to R66): marker and identifier bits 10 to 8, identifier bits 7 to 0, the
control byte, the payload, the CRC low byte first. -/
def FrameFields.toFrame (f : FrameFields) : Frame where
  b0 := Config.marker ++ f.id.extractLsb' 8 3
  b1 := f.id.extractLsb' 0 8
  b2 := BitVec.ofBool f.r ++ BitVec.ofBool f.e ++ f.rsvd ++ f.dlc
  b3 := f.p0
  b4 := f.p1
  b5 := f.p2
  b6 := f.p3
  b7 := f.p4
  b8 := f.p5
  b9 := f.p6
  b10 := f.p7
  b11 := f.crcLo
  b12 := f.crcHi

/-- The fields of 13 bytes, read by their places in R60 (R62 to R65). The marker bits are not looked at. -/
def Frame.fields (w : Frame) : FrameFields where
  id := w.b0.extractLsb' 0 3 ++ w.b1
  r := w.b2.getLsbD 7
  e := w.b2.getLsbD 6
  rsvd := w.b2.extractLsb' 4 2
  dlc := w.b2.extractLsb' 0 4
  p0 := w.b3
  p1 := w.b4
  p2 := w.b5
  p3 := w.b6
  p4 := w.b7
  p5 := w.b8
  p6 := w.b9
  p7 := w.b10
  crcLo := w.b11
  crcHi := w.b12

/-- The 13 bytes in stream order (R12). -/
def Frame.bytes (w : Frame) : List Byte :=
  [w.b0, w.b1, w.b2, w.b3, w.b4, w.b5, w.b6, w.b7, w.b8, w.b9, w.b10, w.b11, w.b12]

/-- Bytes 0 to 10, the span the CRC covers (`CRC_SPAN`, R10, R65). -/
def Frame.span (w : Frame) : List Byte :=
  [w.b0, w.b1, w.b2, w.b3, w.b4, w.b5, w.b6, w.b7, w.b8, w.b9, w.b10]

/-- A sequence of exactly 13 bytes as a frame; of any other length, none (R103). -/
def frameOfBytes : List Byte → Option Frame
  | [b0, b1, b2, b3, b4, b5, b6, b7, b8, b9, b10, b11, b12] =>
      some ⟨b0, b1, b2, b3, b4, b5, b6, b7, b8, b9, b10, b11, b12⟩
  | _ => none

/-- `MarkerOk(w)`: byte 0 bits 7 to 3 are the marker (R61, R110). -/
def markerByte (b0 : Byte) : Bool := b0.extractLsb' 3 5 == Config.marker

/-! ## Operands -/

/-- One operand byte. -/
def takeByte : List Byte → Except OperandError (Byte × List Byte)
  | [] => .error .missing
  | b :: rest => .ok (b, rest)

/-- A 16-bit operand, low byte first. -/
def takeWord : List Byte → Except OperandError (Word × List Byte)
  | lo :: hi :: rest => .ok (wordOfBytes lo hi, rest)
  | _ => .error .missing

/-- The two flags: bit 0 `is_remote`, bit 1 `is_extended`, every other bit 0. -/
def takeFlags : List Byte → Except OperandError ((Bool × Bool) × List Byte)
  | [] => .error .missing
  | b :: rest =>
    if b = 0 then .ok ((false, false), rest)
    else if b = 1 then .ok ((true, false), rest)
    else if b = 2 then .ok ((false, true), rest)
    else if b = 3 then .ok ((true, true), rest)
    else .error .reserved

/-- A two-valued operand: byte 0 the first value, byte 1 the second. -/
def takeChoice {α : Type} (zero one : α) : List Byte → Except OperandError (α × List Byte)
  | [] => .error .missing
  | b :: rest => if b = 0 then .ok (zero, rest) else if b = 1 then .ok (one, rest) else .error .reserved

/-- A read answer: 0 to 13 is `rx k`, `0xFF` is `rx err`. -/
def takeReadAnswer : List Byte → Except OperandError (ReadAnswer × List Byte)
  | [] => .error .missing
  | b :: rest =>
    if b.toNat ≤ Config.frameLen then .ok (.rx b.toNat, rest)
    else if b = 0xFF then .ok (.err, rest)
    else .error .reserved

/-- A byte span of any length: each byte behind a `01`, then `00`. -/
def takeSpan : List Byte → Except OperandError (List Byte × List Byte)
  | [] => .error .missing
  | t :: rest =>
    if t = 0 then .ok ([], rest)
    else if t = 1 then
      match rest with
      | [] => .error .missing
      | b :: rest' =>
        match takeSpan rest' with
        | .ok (s, tail) => .ok (b :: s, tail)
        | .error why => .error why
    else .error .reserved

/-- The next 13 bytes. -/
def takeFrame : List Byte → Except OperandError (Frame × List Byte)
  | b0 :: b1 :: b2 :: b3 :: b4 :: b5 :: b6 :: b7 :: b8 :: b9 :: b10 :: b11 :: b12 :: rest =>
      .ok (⟨b0, b1, b2, b3, b4, b5, b6, b7, b8, b9, b10, b11, b12⟩, rest)
  | _ => .error .missing

/-! ## The decoder -/

/-- The operation of a 4-bit label of R67 and its operands. -/
def decodeOperands (label : Nat) (bs : List Byte) : Except OperandError (Instr × List Byte) :=
  match label with
  | 0x0 => .ok (.reset, bs)
  | 0x1 => .ok (.start, bs)
  | 0x2 => .ok (.stop, bs)
  | 0x3 => do
    let (s, bs) ← takeSpan bs
    .ok (.crc16 s, bs)
  | 0x4 => do
    let (identifier, bs) ← takeWord bs
    let ((isRemote, isExtended), bs) ← takeFlags bs
    let (payload, bs) ← takeSpan bs
    .ok (.encodeMsg identifier isRemote isExtended payload, bs)
  | 0x5 => do
    let (w, bs) ← takeFrame bs
    .ok (.decodeFrame w, bs)
  | 0x6 => do
    let (mode, bs) ← takeChoice PopMode.block .timeout bs
    let (caller, bs) ← takeChoice Caller.fresh .pending bs
    .ok (.qPop mode caller, bs)
  | 0x7 => do
    let (identifier, bs) ← takeWord bs
    let ((isRemote, isExtended), bs) ← takeFlags bs
    let (answer, bs) ← takeChoice WriteAnswer.success .writeError bs
    let (payload, bs) ← takeSpan bs
    .ok (.send identifier isRemote isExtended answer payload, bs)
  | 0x8 => do
    let (mode, bs) ← takeChoice PopMode.block .timeout bs
    let (caller, bs) ← takeChoice Caller.fresh .pending bs
    .ok (.recv mode caller, bs)
  | 0x9 => do
    let (answer, bs) ← takeChoice OpenAnswer.isOpen .closed bs
    .ok (.syncCheck answer, bs)
  | 0xA => do
    let (answer, bs) ← takeReadAnswer bs
    .ok (.syncRead answer, bs)
  | 0xB => .ok (.syncValidate, bs)
  | 0xC => .ok (.syncShed, bs)
  | 0xD => .ok (.syncDeliver, bs)
  | 0xE => do
    let (crc, bs) ← takeWord bs
    let (b, bs) ← takeByte bs
    .ok (.crc16Update crc b, bs)
  | 0xF => do
    let (f, bs) ← takeFrame bs
    .ok (.qPush f, bs)
  | _ => .error .reserved

/-- The operation at the head of a byte sequence, and the bytes after it. A first byte that carries the frame marker
(`0xA8` to `0xAF`, R61) begins a wire frame; `0x00` to `0x0F` is a label of R67; every other first byte is rejected. -/
def decode : List Byte → Except DecodeError (Instr × List Byte)
  | [] => .error .noBytes
  | b :: rest =>
    if markerByte b then
      match takeFrame (b :: rest) with
      | .ok (w, tail) => .ok (.frame13 w.fields, tail)
      | .error why => .error (.operands b why)
    else if b.toNat < 16 then
      match decodeOperands b.toNat rest with
      | .ok (i, tail) => .ok (i, tail)
      | .error why => .error (.operands b why)
    else .error (.unknownLabel b)

/-! ## The encoder -/

/-- The two flags as one byte. -/
def flagsByte : Bool → Bool → Byte
  | false, false => 0
  | true, false => 1
  | false, true => 2
  | true, true => 3

/-- A span, each byte behind a `01`, then `00`. -/
def encodeSpan : List Byte → List Byte
  | [] => [0]
  | b :: s => 1 :: b :: encodeSpan s

def PopMode.byte : PopMode → Byte
  | .block => 0
  | .timeout => 1

def Caller.byte : Caller → Byte
  | .fresh => 0
  | .pending => 1

def OpenAnswer.byte : OpenAnswer → Byte
  | .isOpen => 0
  | .closed => 1

def WriteAnswer.byte : WriteAnswer → Byte
  | .success => 0
  | .writeError => 1

def ReadAnswer.byte : ReadAnswer → Byte
  | .rx k => BitVec.ofNat 8 k
  | .err => 0xFF

/-- The bytes of an operation: the wire frame (R60), or the label of R67 and its operands. -/
def encode : Instr → List Byte
  | .frame13 f => f.toFrame.bytes
  | .reset => [0x00]
  | .start => [0x01]
  | .stop => [0x02]
  | .crc16 s => 0x03 :: encodeSpan s
  | .encodeMsg identifier isRemote isExtended payload =>
      0x04 :: lowByte identifier :: highByte identifier :: flagsByte isRemote isExtended :: encodeSpan payload
  | .decodeFrame w => 0x05 :: w.bytes
  | .qPop mode caller => [0x06, mode.byte, caller.byte]
  | .send identifier isRemote isExtended answer payload =>
      0x07 :: lowByte identifier :: highByte identifier :: flagsByte isRemote isExtended :: answer.byte ::
        encodeSpan payload
  | .recv mode caller => [0x08, mode.byte, caller.byte]
  | .syncCheck answer => [0x09, answer.byte]
  | .syncRead answer => [0x0A, answer.byte]
  | .syncValidate => [0x0B]
  | .syncShed => [0x0C]
  | .syncDeliver => [0x0D]
  | .crc16Update crc b => [0x0E, lowByte crc, highByte crc, b]
  | .qPush f => 0x0F :: f.bytes

/-! ## Words of the opcode table -/

/-- The bytes of a table word of `8 * n` bits, byte 0 first. The table numbers `FRAME13` as ONE 104-bit number with byte 0
most significant (R66), and a label as one byte. DEDUCED, safe: log entry 19. -/
def tableBytes : Nat → Nat → List Byte
  | 0, _ => []
  | n + 1, w => BitVec.ofNat 8 (w >>> (8 * n)) :: tableBytes n w

/-- Operand bytes of zeros behind a table word, as many as the longest operand of zeros needs. -/
def zeroOperands : List Byte := [0, 0, 0, 0, 0, 0, 0, 0, 0, 0, 0, 0, 0]

/-- What the decoder reads from a table word of `nbits` bits. -/
def decodeTableWord (nbits w : Nat) : Option Instr :=
  match decode (tableBytes (nbits / 8) w ++ zeroOperands) with
  | .ok (i, _) => some i
  | .error _ => none

/-- The bytes of that same operation and no more: what the decoder leaves over is cut off. -/
def tableWordBytes (nbits w : Nat) : List Byte :=
  let bs := tableBytes (nbits / 8) w ++ zeroOperands
  match decode bs with
  | .ok (_, rest) => bs.take (bs.length - rest.length)
  | .error _ => bs

end Sys2Proof
end

