-- ==== Sys2Proof/Machine/State.lean ====
section
/-! DEFINITION. The state of one CORE instance as plain data (R20, R34), the results and events of its operations
(R15, R160, R178), and the reasons a step can stop. -/

namespace Sys2Proof.Machine

/-- `PHASE`: where the synchronizer loop stands (R26). -/
inductive Phase where
  /-- created, not started -/
  | idle
  /-- top of an outer iteration -/
  | check
  /-- a transport read is outstanding -/
  | read
  /-- the window is about to be tested -/
  | validate
  /-- the window is valid and waits for room in the queue -/
  | deliver
  /-- the loop has exited; terminal until reset -/
  | stopped
deriving DecidableEq, Repr

/-- The error and result kinds of R160. -/
inductive ErrorKind where
  | invalidIdentifier
  | payloadTooLong
  | checksumMismatch
  | markerMismatch
  | transportClosed
  | queueFull
  | empty
  | readError
  | writeError
deriving DecidableEq, Repr

/-- An error kind that ends an operation as its result, with the information R160 says it records. -/
inductive Raised where
  /-- `ENCODE`, `SEND`: the offending identifier (R161) -/
  | invalidIdentifier (identifier : Word)
  /-- `DECODE`: the 13 bytes (R163) -/
  | checksumMismatch (w : Frame)
  /-- `DECODE`: the 13 bytes (R164) -/
  | markerMismatch (w : Frame)
deriving DecidableEq, Repr

/-- A decoded message (R103). -/
structure Message where
  identifier : BitVec 11
  isRemote : Bool
  isExtended : Bool
  /-- the raw data length code, 0 to 15 (R70) -/
  dlc : BitVec 4
  payload : List Byte
  /-- the format warning flag (R105) -/
  fmtWarn : Bool
deriving DecidableEq, Repr

/-- What a completed operation returns. -/
inductive OpResult where
  /-- nothing: `RESET`, `START`, `STOP`, the SYNC steps, the transport's events -/
  | unit
  /-- `CRC16`, `CRC16.UPDATE`: the number (R85, R82) -/
  | crc (c : Word)
  /-- `ENCODE`: the frame and `truncated` (R100) -/
  | encoded (f : Frame) (truncated : Bool)
  /-- `DECODE`: the message (R103) -/
  | decoded (m : Message)
  /-- `Q.POP`: the frame removed (R152) -/
  | frame (f : Frame)
  /-- `Q.POP`: no frame (R153, R154) -/
  | empty
  /-- `SEND`: the transport's answer and `truncated` (R108) -/
  | sent (answer : WriteAnswer) (truncated : Bool)
  /-- `RECV`: the message or none, and `filtering_applied` (R109) -/
  | received (m : Option Message) (filteringApplied : Bool)
  /-- an error kind as the result (R14 `raise`) -/
  | error (why : Raised)
deriving DecidableEq, Repr

/-- What a blocked operation waits for (R15). -/
inductive BlockedOn where
  /-- the queue holds five frames (R126, R151, R166) -/
  | queueFull
  /-- the queue holds no frame (R152, R153) -/
  | queueEmpty
  /-- the transport has not answered the read (R123) -/
  | readOutstanding
deriving DecidableEq, Repr

/-- How the last operation ended (R15): it completed with a result, or it is blocked. A refused one is no step. -/
inductive OpOutcome where
  | completed (r : OpResult)
  | blocked (on : BlockedOn)
deriving DecidableEq, Repr

/-- A diagnostic event (R178). -/
inductive DiagEvent where
  | accept (w : Frame)
  | reject (w : Frame) (kind : ErrorKind)
deriving DecidableEq, Repr

/-- Which operation a consumer's pending call is. -/
inductive PopOp where
  | pop
  | recv
deriving DecidableEq, Repr

/-- A pending call of a blocked consumer (R34 (d)). -/
structure PendingCall where
  op : PopOp
  mode : PopMode
deriving DecidableEq, Repr

/-- One `StreamWrite` of `SEND`: the frame handed over, and the transport's answer (R108). -/
structure TxWrite where
  frame : Frame
  answer : WriteAnswer
deriving DecidableEq, Repr

/-- Faults. -/
inductive Fault where
  /-- Raised by `SYNC.VALIDATE`, `SYNC.DELIVER` and `SYNC.SHED` when `BUF` is not a whole window: a byte that holds no
  value would be read (R23, U7). Safe: the machine stops where the spec gives no value, and no run from reset gets there. -/
  | bufNoValue
deriving DecidableEq, Repr

/-- Refusals (R15): the operation has no meaning in this state. All are safe: the machine stops where the spec has no
step. -/
inductive Refusal where
  /-- Raised by `exec`'s arm of an instruction that has no meaning yet. Safe. -/
  | notModelled (mnemonic : String)
  /-- Raised by `START` when `PHASE` is not `IDLE` (R121, U14). Safe. -/
  | startNotIdle
  /-- Raised by a SYNC step when `PHASE` is not the phase it is enabled in (R129). Safe. -/
  | stepNotEnabled
  /-- Raised by `SYNC.READ` on an answer longer than the request `13 - LEN` (R44, U9). Safe. -/
  | answerTooLong
  /-- Raised by `Q.POP` and `RECV` scheduled for a pending call when none of that kind is pending. Safe; log entry 9. -/
  | noPendingCall
  /-- Raised by the fetch when the script is at its end: no agent's step has been chosen. Safe; log entry 1. -/
  | scriptEnded
  /-- Raised by the fetch when the bytes of the script are no operation. Safe; log entry 2. -/
  | undecodable (why : DecodeError)
  /-- Raised by the fetch when a micro-operation is scheduled outside its enclosing operation (R67). Safe; log entry 13. -/
  | microOperation
deriving DecidableEq, Repr

/-- The state of one instance. The first six fields are the tuple of R20 (`LEN` and `QLEN` are the lengths of `buf` and
`q`, log entry 6); the rest is the configuration, what R34 calls hidden state, the ports of R17, and the model's own fields. -/
structure State where
  /-- `BUF[0..LEN-1]`, the bytes that hold a value, in arrival order (R21 to R23) -/
  buf : List Byte
  /-- `RESYNC_CNT` (R24) -/
  resyncCnt : Nat
  /-- `RUN` (R25) -/
  run : Bool
  /-- `PHASE` (R26) -/
  phase : Phase
  /-- `TCLOSED` (R27) -/
  tclosed : Bool
  /-- `Q[0..QLEN-1]`, oldest first (R28) -/
  q : List Frame
  /-- the open parameters (R10); no operation writes them (R81). Log entry 7. -/
  params : Params
  /-- the inbound stream SYNC has not read yet (R34 (a), R40). Log entry 23. -/
  rx : List Byte
  /-- the writes of the outbound stream, oldest first (R40, R108). Log entry 15. -/
  tx : List TxWrite
  /-- pending calls of blocked consumers, in no order that matters (R34 (d), R155). Log entry 9. -/
  pendingPops : List PendingCall
  /-- how the last operation ended (R15). Log entry 12. -/
  outcome : OpOutcome
  /-- ghost trace of the diagnostic events emitted, oldest first (R178). Log entry 11. -/
  emitted : List DiagEvent
  /-- the events that reached the optional, lossy sink (R178, U15). Log entry 11. -/
  sink : List DiagEvent
  /-- MODEL'S OWN: how many free values have been drawn -/
  draws : Nat
  /-- MODEL'S OWN: the schedule, one encoded operation after another. Log entry 1. -/
  script : List Byte
  /-- MODEL'S OWN: the head of the script is a micro-operation inside its enclosing operation. Log entry 13. -/
  enclosed : Bool
deriving DecidableEq, Repr

/-- The state after `RESET` at creation (R36, R190), with the spec's default parameters (R10). The fields that are not of
R20 hold nothing: DESIGN CHOICE, unsafe; log entry 21. -/
def State.reset : State where
  buf := []
  resyncCnt := 0
  run := false
  phase := .idle
  tclosed := false
  q := []
  params := Config.defaults
  rx := []
  tx := []
  pendingPops := []
  outcome := .completed .unit
  emitted := []
  sink := []
  draws := 0
  script := []
  enclosed := false

/-- The outcome of a meaning or a step. -/
abbrev Result := Host.Outcome State Fault Refusal

end Sys2Proof.Machine
end

