-- ==== Sys2Proof/Machine/Operands.lean ====
section
/-! DEFINITION. How operations read their operands and status: the logical payload of a frame and its padding, `LEN`,
`QLEN`, the read request, the window, one byte of `BUF`, the counter's cap, the host-readable status. -/

namespace Sys2Proof.Machine

/-- `PHASE`'s numeric code (R26). -/
def Phase.code : Phase → Nat
  | .idle => 0
  | .check => 1
  | .read => 2
  | .validate => 3
  | .deliver => 4
  | .stopped => 5

/-- The numeric label of an error kind (R160). -/
def ErrorKind.code : ErrorKind → Nat
  | .invalidIdentifier => 1
  | .payloadTooLong => 2
  | .checksumMismatch => 3
  | .markerMismatch => 4
  | .transportClosed => 5
  | .queueFull => 6
  | .empty => 7
  | .readError => 8
  | .writeError => 9

/-- `LEN` (R22). -/
def State.len (s : State) : Nat := s.buf.length

/-- `QLEN` (R28). -/
def State.qlen (s : State) : Nat := s.q.length

/-- The size `n = 13 - LEN` of the read SYNC issues (R44, R123). -/
def State.request (s : State) : Nat := Config.frameLen - s.len

/-- `BUF[i]` (R14): a byte that holds no value is a fault (R23, U7). -/
def State.readBuf (s : State) (i : Nat) : Except Fault Byte :=
  match s.buf[i]? with
  | some b => .ok b
  | none => .error .bufNoValue

/-- `BUF[0..12]`, the window (R16): there is one exactly when `LEN = 13`. -/
def State.window (s : State) : Option Frame := frameOfBytes s.buf

/-- `2^RESYNC_CNT_W - 1`, where `RESYNC_CNT` saturates (R24). -/
def resyncCap (p : Params) : Nat := 2 ^ p.resyncW - 1

/-- Payload byte `k` as `ENCODE` writes it: the offered byte, `0x00` past the payload's end (R64, R100). -/
def paddedByte (payload : List Byte) (k : Nat) : Byte := payload.getD k 0

/-- The data length code of an offered payload, `min(n, 8)` (R100). -/
def dlcOf (payload : List Byte) : BitVec 4 := BitVec.ofNat 4 (min payload.length Config.dlcMax)

/-- The eight payload bytes of a frame, bytes 3 to 10 (R64). -/
def payloadField (w : Frame) : List Byte := [w.b3, w.b4, w.b5, w.b6, w.b7, w.b8, w.b9, w.b10]

/-- The logical payload: the first `min(dlc, 8)` payload bytes (R70, R103). -/
def payloadOf (w : Frame) : List Byte := (payloadField w).take (min w.fields.dlc.toNat Config.dlcMax)

/-- The status the HOST may read at any time (R17, R29): `PHASE`, `TCLOSED`, `RESYNC_CNT`, `QLEN`, and nothing else. -/
def State.status (s : State) : Phase × Bool × Nat × Nat := (s.phase, s.tclosed, s.resyncCnt, s.qlen)

end Sys2Proof.Machine
end

