-- ==== Sys2Proof/Machine/Flags.lean ====
section
/-! DEFINITION. The predicates and result flags: `MarkerOk`, `CrcOk`, `FrameValid` (R110), the classes of 13 bytes (R68),
`truncated` (R102), `fmt_warn` (R105), and the error kind an outcome reports (R160). -/

namespace Sys2Proof.Machine

/-- `MarkerOk(w)` (R110). -/
def markerOk (w : Frame) : Bool := markerByte w.b0

/-- `CrcOk(w)` (R110): the stored bytes are those of the CRC of bytes 0 to 10, low byte first. -/
def crcOk (p : Params) (w : Frame) : Bool :=
  w.b11 == lowByte (crc16 p w.span) && w.b12 == highByte (crc16 p w.span)

/-- `FrameValid(w)` (R110). -/
def frameValid (p : Params) (w : Frame) : Bool := markerOk w && crcOk p w

/-- The three classes of R68. -/
inductive FrameClass where
  | markerMismatch
  | checksumMismatch
  | valid
deriving DecidableEq, Repr

/-- The class of 13 bytes, marker tested first (R68). -/
def classify (p : Params) (w : Frame) : FrameClass :=
  if markerOk w then (if crcOk p w then .valid else .checksumMismatch) else .markerMismatch

/-- `truncated`: more than 8 payload bytes were offered (R102). -/
def truncatedFlag (payload : List Byte) : Bool := decide (payload.length > Config.dlcMax)

/-- `fmt_warn`: reserved bits set or a data length code above 8 (R105). -/
def fmtWarnFlag (w : Frame) : Bool :=
  decide (w.fields.rsvd ≠ 0) || decide (w.fields.dlc.toNat > Config.dlcMax)

/-- The kind of an error result (R160). -/
def Raised.kind : Raised → ErrorKind
  | .invalidIdentifier _ => .invalidIdentifier
  | .checksumMismatch _ => .checksumMismatch
  | .markerMismatch _ => .markerMismatch

/-- The kind of R160 a result names, if any: an error, a warning carried by a flag, or `Empty`. A failed write is named
before the truncation it may come with. -/
def OpResult.kind : OpResult → Option ErrorKind
  | .unit => none
  | .crc _ => none
  | .encoded _ truncated => if truncated then some .payloadTooLong else none
  | .decoded _ => none
  | .frame _ => none
  | .empty => some .empty
  | .sent .writeError _ => some .writeError
  | .sent .success truncated => if truncated then some .payloadTooLong else none
  | .received m _ => if m.isNone then some .empty else none
  | .error why => some why.kind

/-- The kind of R160 an outcome names: `QueueFull` is the name of a push that is blocked (R166). -/
def OpOutcome.kind : OpOutcome → Option ErrorKind
  | .completed r => r.kind
  | .blocked .queueFull => some .queueFull
  | .blocked .queueEmpty => none
  | .blocked .readOutstanding => none

end Sys2Proof.Machine
end

