-- ==== Sys2Proof/Machine/Ops.lean ====
section
/-! DEFINITION. The named operations over the state that the meanings are made of: how an operation ends, the moves of
bytes and frames between the data spaces of R40, the pending calls, the free values, and the analogue of taking an
exception, `raiseError` (R172: it ends the operation with an error kind as its result and changes nothing else; there is
no return, R173). -/

namespace Sys2Proof.Machine

/-! ## How an operation ends (R15) -/

/-- The operation completes with a result. -/
def State.done (s : State) (r : OpResult) : State := { s with outcome := .completed r }

/-- The operation is blocked: it has no enabled step, and nothing of the machine changes. DESIGN CHOICE, safe: log entry 8. -/
def State.block (s : State) (on : BlockedOn) : State := { s with outcome := .blocked on }

/-- `raise <Kind>(info)` (R14, R172): the operation ends with the error kind as its result; no state is saved, no mode
changes, control goes nowhere. -/
def State.raiseError (s : State) (why : Raised) : State := s.done (.error why)

/-! ## Free values -/

/-- One free value has been drawn. -/
def State.drawn (s : State) : State := { s with draws := s.draws + 1 }

/-! ## The synchronizer's fields -/

/-- `PHASE <- p`. -/
def State.setPhase (s : State) (p : Phase) : State := { s with phase := p }

/-- `RUN <- v`. -/
def State.setRun (s : State) (v : Bool) : State := { s with run := v }

/-- `TCLOSED <- 1` (R27). -/
def State.latchClosed (s : State) : State := { s with tclosed := true }

/-- The transport hands over its next `k` bytes and they are appended to `BUF` in order (R44, R46, R48). -/
def State.append (s : State) (k : Nat) : State :=
  { s with buf := s.buf ++ s.rx.take k, rx := s.rx.drop k }

/-- `SYNC.SHED` (R47, R125): evict the front byte, count one resync with saturation, go to `CHECK`. -/
def State.shed (s : State) : State :=
  { s with buf := s.buf.drop 1, resyncCnt := min (s.resyncCnt + 1) (resyncCap s.params), phase := .check }

/-- `emit` (R14, R178): the event joins the ghost trace, and the sink if it takes it (U15). Nothing else changes. -/
def State.emit (s : State) (ev : DiagEvent) : State :=
  { s with
    emitted := s.emitted ++ [ev]
    sink := if Config.sinkTakes s.draws then s.sink ++ [ev] else s.sink
    draws := s.draws + 1 }

/-! ## The queue -/

/-- `Q.PUSH(f)` (R151): `Q[QLEN] <- f; QLEN <- QLEN + 1`. -/
def State.push (s : State) (f : Frame) : State := { s with q := s.q ++ [f] }

/-- The delivery of R126: push the window, empty the buffer, clear the counter, go to `CHECK`. -/
def State.deliver (s : State) (w : Frame) : State :=
  { s.push w with buf := [], resyncCnt := 0, phase := .check }

/-- What a pop comes to (R152 to R154). -/
inductive PopStep where
  /-- the head frame, removed -/
  | got (f : Frame) (s : State)
  /-- `Empty` -/
  | empty (s : State)
  /-- the call stays pending -/
  | wait (s : State)
deriving DecidableEq, Repr

/-- `Q.POP(mode)` up to who called it (R152, R153, R154). On an empty queue of a loop that has not stopped, `block` waits
and `timeout` returns `Empty` or waits as the free value says (U10). -/
def State.pop (s : State) (mode : PopMode) : PopStep :=
  match s.q with
  | f :: rest => .got f { s with q := rest }
  | [] =>
    if s.phase = .stopped then .empty s
    else
      match mode with
      | .block => .wait s
      | .timeout => if Config.timeoutElapsed s.draws then .empty s.drawn else .wait s.drawn

/-- A call that waits becomes a pending call, or stays one (R34 (d)). -/
def State.keepCall (s : State) (caller : Caller) (call : PendingCall) : State :=
  match caller with
  | .fresh => { s with pendingPops := s.pendingPops ++ [call] }
  | .pending => s

/-- A call that returns is no longer pending. -/
def State.endCall (s : State) (caller : Caller) (call : PendingCall) : State :=
  match caller with
  | .fresh => s
  | .pending => { s with pendingPops := s.pendingPops.erase call }

/-! ## The transport -/

/-- Bytes join the end of the inbound stream (R48). -/
def State.arrive (s : State) (bytes : List Byte) : State := { s with rx := s.rx ++ bytes }

/-- `StreamWrite(f[0..12])` with the transport's answer (R108). -/
def State.streamWrite (s : State) (f : Frame) (a : WriteAnswer) : State := { s with tx := s.tx ++ [⟨f, a⟩] }

/-- A reset abandons an outstanding read (R190): of the bytes it would have returned, at most `13 - LEN`, as many as the
free value says are gone from the stream (U16, D34). With no read outstanding the transport is untouched.
DESIGN CHOICE, unsafe: WHEN they are lost. R190 and U16 leave a late answer open; the model takes the loss in the reset step
itself, from bytes already in `rx`, so bytes that arrive after the reset are all kept. Log entry 14. -/
def State.abandonRead (s : State) : State :=
  if s.phase = .read then
    { s with rx := s.rx.drop (min (Config.abandonedBytes s.draws) s.request), draws := s.draws + 1 }
  else s

/-- The writes of `RESET` (R36, R190). -/
def State.clear (s : State) : State :=
  { s with buf := [], resyncCnt := 0, run := false, phase := .idle, tclosed := false, q := [] }

end Sys2Proof.Machine
end

