-- ==== Sys2Proof/Machine/Checksum.lean ====
section
/-! DEFINITION. The CRC Engine's operations: `CRC16` (R85) and its micro-operation `CRC16.UPDATE` (R82). -/

namespace Sys2Proof.Machine

/-- CRC16 (R85). -/
def execCrc16 (span : List Byte) (s : State) : Result := .next (s.done (.crc (crc16 s.params span)))

/-- CRC16.UPDATE (R82). -/
def execCrc16Update (crc : Word) (b : Byte) (s : State) : Result := .next (s.done (.crc (crcUpdate crc b)))

end Sys2Proof.Machine
end

