-- ==== Sys2Proof/Machine/Control.lean ====
section
/-! DEFINITION. The HOST's control operations: `RESET` (R190), `START` (R121), `STOP` (R127). -/

namespace Sys2Proof.Machine

/-- RESET (R190), enabled in any state. The transport, the configuration and the pending calls stay (R190, R191). -/
def execReset (s : State) : Result := .next (s.abandonRead.clear.done .unit)

/-- START (R121): only from `IDLE`; anywhere else it is refused (U14). -/
def execStart (s : State) : Result :=
  if s.phase = .idle then .next (((s.setRun true).setPhase .check).done .unit) else .refused .startNotIdle

/-- STOP (R127), in any phase: `RUN <- 0` and nothing else. -/
def execStop (s : State) : Result := .next ((s.setRun false).done .unit)

end Sys2Proof.Machine
end

