-- ==== Sys2Proof/Machine/Codec.lean ====
section
/-! DEFINITION. The Frame Codec (R100 to R108): `ENCODE` and `DECODE` as pure functions and as operations, and `SEND`. -/

namespace Sys2Proof.Machine

/-- The fields of `ENCODE`'s frame before its CRC is known: the CRC bytes are 0 and no CRC covers them (R100). -/
def headFields (identifier : Word) (isRemote isExtended : Bool) (payload : List Byte) : FrameFields where
  id := identifier.setWidth 11
  r := isRemote
  e := isExtended
  rsvd := 0
  dlc := dlcOf payload
  p0 := paddedByte payload 0
  p1 := paddedByte payload 1
  p2 := paddedByte payload 2
  p3 := paddedByte payload 3
  p4 := paddedByte payload 4
  p5 := paddedByte payload 5
  p6 := paddedByte payload 6
  p7 := paddedByte payload 7
  crcLo := 0
  crcHi := 0

/-- A frame with its CRC bytes set to those of its bytes 0 to 10, low byte first (R65, R86). -/
def sealFrame (p : Params) (f : Frame) : Frame :=
  { f with b11 := lowByte (crc16 p f.span), b12 := highByte (crc16 p f.span) }

/-- `ENCODE` (R100 to R102): the identifier is tested before anything else. -/
def encodeMessage (p : Params) (identifier : Word) (isRemote isExtended : Bool) (payload : List Byte) :
    Except Raised (Frame × Bool) :=
  if identifier > Config.idMax then .error (.invalidIdentifier identifier)
  else .ok (sealFrame p (headFields identifier isRemote isExtended payload).toFrame, truncatedFlag payload)

/-- The message of 13 bytes, whatever they are (R103, R105). -/
def messageOf (w : Frame) : Message where
  identifier := w.fields.id
  isRemote := w.fields.r
  isExtended := w.fields.e
  dlc := w.fields.dlc
  payload := payloadOf w
  fmtWarn := fmtWarnFlag w

/-- `DECODE` (R103, R104): the CRC is tested first, the marker second. -/
def decodeMessage (p : Params) (w : Frame) : Except Raised Message :=
  if !crcOk p w then .error (.checksumMismatch w)
  else if !markerOk w then .error (.markerMismatch w)
  else .ok (messageOf w)

/-- ENCODE (R100). -/
def execEncode (identifier : Word) (isRemote isExtended : Bool) (payload : List Byte) (s : State) : Result :=
  match encodeMessage s.params identifier isRemote isExtended payload with
  | .ok (f, truncated) => .next (s.done (.encoded f truncated))
  | .error why => .next (s.raiseError why)

/-- DECODE (R103). -/
def execDecode (w : Frame) (s : State) : Result :=
  match decodeMessage s.params w with
  | .ok m => .next (s.done (.decoded m))
  | .error why => .next (s.raiseError why)

/-- SEND (R108): `ENCODE`, then one write whose answer is returned and not retried; nothing is written if `ENCODE` raises. -/
def execSend (identifier : Word) (isRemote isExtended : Bool) (answer : WriteAnswer) (payload : List Byte)
    (s : State) : Result :=
  match encodeMessage s.params identifier isRemote isExtended payload with
  | .ok (f, truncated) => .next ((s.streamWrite f answer).done (.sent answer truncated))
  | .error why => .next (s.raiseError why)

end Sys2Proof.Machine
end

