-- ==== Sys2Proof/Machine/Queue.lean ====
section
/-! DEFINITION. The Delivery Queue's operations: `Q.POP` (R152 to R155), `Q.PUSH` (R151), and `RECV` (R109). -/

namespace Sys2Proof.Machine

/-- A consumer's call, new or pending: pop, then `finish` with the frame or with `Empty`; a call that waits is kept
pending and nothing else changes. A pending call is scheduled only if there is one (R155, log entry 9). -/
def popCall (op : PopOp) (mode : PopMode) (caller : Caller) (finish : Option Frame → State → State) (s : State) :
    Result :=
  if caller = .pending ∧ ⟨op, mode⟩ ∉ s.pendingPops then .refused .noPendingCall
  else
    match s.pop mode with
    | .got f t => .next (finish (some f) (t.endCall caller ⟨op, mode⟩))
    | .empty t => .next (finish none (t.endCall caller ⟨op, mode⟩))
    | .wait t => .next ((t.keepCall caller ⟨op, mode⟩).block .queueEmpty)

/-- What `Q.POP` returns (R152). -/
def finishPop : Option Frame → State → State
  | some f, s => s.done (.frame f)
  | none, s => s.done .empty

/-- What `RECV` returns (R109): the decoded message, or none; `filtering_applied` is always false. A queued frame is
valid, so `DECODE` does not raise; if it did, its error kind would be the result. DEDUCED, safe: log entry 16. -/
def finishRecv : Option Frame → State → State
  | some f, s =>
    match decodeMessage s.params f with
    | .ok m => s.done (.received (some m) false)
    | .error why => s.raiseError why
  | none, s => s.done (.received none false)

/-- Q.POP (R152, R153, R154). -/
def execQPop (mode : PopMode) (caller : Caller) (s : State) : Result := popCall .pop mode caller finishPop s

/-- RECV (R109): `Q.POP`, then `DECODE`. -/
def execRecv (mode : PopMode) (caller : Caller) (s : State) : Result := popCall .recv mode caller finishRecv s

/-- Q.PUSH (R151): blocked while the queue is full. -/
def execQPush (f : Frame) (s : State) : Result :=
  if s.qlen < Config.qCap then .next ((s.push f).done .unit) else .next (s.block .queueFull)

end Sys2Proof.Machine
end

