-- ==== Sys2Proof/Machine/Stream.lean ====
section
/-! DEFINITION. `FRAME13` as an event of the TRANSPORT agent: the 13 bytes of a wire frame are carried at the end of the
inbound stream. Nothing looks at them on arrival (R120): marker and CRC are tested when they stand in the window. -/

namespace Sys2Proof.Machine

/-- FRAME13 (R60, R48). DESIGN CHOICE, safe: log entry 3. -/
def execFrame13 (f : FrameFields) (s : State) : Result := .next ((s.arrive f.toFrame.bytes).done .unit)

end Sys2Proof.Machine
end

