-- ==== Sys2Proof/Machine/Sync.lean ====
section
/-! DEFINITION. The Stream Synchronizer's steps (R122 to R126), and the shed alone as the micro-operation it is. A step
scheduled in another phase than its own is refused (R129). -/

namespace Sys2Proof.Machine

/-- SYNC.CHECK (R122): `RUN` first, then `IsOpen()`. -/
def execSyncCheck (answer : OpenAnswer) (s : State) : Result :=
  if s.phase = .check then
    if s.run then
      match answer with
      | .isOpen => .next ((s.setPhase .read).done .unit)
      | .closed => .next ((s.latchClosed.setPhase .stopped).done .unit)
    else .next ((s.setPhase .stopped).done .unit)
  else .refused .stepNotEnabled

/-- The arrival of `k` bytes in `SYNC.READ` (R123): on to `VALIDATE` when the window is full, else back to `CHECK`. -/
def State.fill (s : State) (k : Nat) : State :=
  (s.append k).setPhase (if (s.append k).len = Config.frameLen then .validate else .check)

/-- SYNC.READ (R123). An empty or failed read only goes back to `CHECK` (R45, R168); an answer longer than the request is
refused (U9); an answer of bytes the stream does not hold has not come yet: the read stays outstanding (log entry 5). -/
def execSyncRead (answer : ReadAnswer) (s : State) : Result :=
  if s.phase = .read then
    match answer with
    | .err => .next ((s.setPhase .check).done .unit)
    | .rx k =>
      if k = 0 then .next ((s.setPhase .check).done .unit)
      else if k > s.request then .refused .answerTooLong
      else if k > s.rx.length then .next (s.block .readOutstanding)
      else .next ((s.fill k).done .unit)
  else .refused .stepNotEnabled

/-- SYNC.VALIDATE (R124): marker first, then CRC; a window that fails either is shed in the same step. -/
def execSyncValidate (s : State) : Result :=
  if s.phase = .validate then
    match s.window with
    | none => .fault .bufNoValue
    | some w =>
      if !markerOk w then .next ((s.emit (.reject w .markerMismatch)).shed.done .unit)
      else if !crcOk s.params w then .next ((s.emit (.reject w .checksumMismatch)).shed.done .unit)
      else .next (((s.emit (.accept w)).setPhase .deliver).done .unit)
  else .refused .stepNotEnabled

/-- SYNC.SHED (R125), done only when `LEN = 13` (R47): otherwise `BUF[12]` holds no value. -/
def execSyncShed (s : State) : Result :=
  match s.window with
  | none => .fault .bufNoValue
  | some _ => .next (s.shed.done .unit)

/-- SYNC.DELIVER (R126): blocked while the queue is full. -/
def execSyncDeliver (s : State) : Result :=
  if s.phase = .deliver then
    if s.qlen < Config.qCap then
      match s.window with
      | none => .fault .bufNoValue
      | some w => .next ((s.deliver w).done .unit)
    else .next (s.block .queueFull)
  else .refused .stepNotEnabled

end Sys2Proof.Machine
end

