-- ==== Sys2Proof/Machine/Dispatch.lean ====
section
/-! DEFINITION. One arm per operation. -/

namespace Sys2Proof.Machine

def exec (i : Instr) (s : State) : Host.Outcome State Fault Refusal :=
  match i with
  | .frame13 f => Sys2Proof.Machine.execFrame13 f s
  | .reset => Sys2Proof.Machine.execReset s
  | .start => Sys2Proof.Machine.execStart s
  | .stop => Sys2Proof.Machine.execStop s
  | .crc16 span => Sys2Proof.Machine.execCrc16 span s
  | .encodeMsg identifier isRemote isExtended payload => Sys2Proof.Machine.execEncode identifier isRemote isExtended payload s
  | .decodeFrame w => Sys2Proof.Machine.execDecode w s
  | .qPop mode caller => Sys2Proof.Machine.execQPop mode caller s
  | .send identifier isRemote isExtended answer payload => Sys2Proof.Machine.execSend identifier isRemote isExtended answer payload s
  | .recv mode caller => Sys2Proof.Machine.execRecv mode caller s
  | .syncCheck answer => Sys2Proof.Machine.execSyncCheck answer s
  | .syncRead answer => Sys2Proof.Machine.execSyncRead answer s
  | .syncValidate => Sys2Proof.Machine.execSyncValidate s
  | .syncShed => Sys2Proof.Machine.execSyncShed s
  | .syncDeliver => Sys2Proof.Machine.execSyncDeliver s
  | .crc16Update crc b => Sys2Proof.Machine.execCrc16Update crc b s
  | .qPush f => Sys2Proof.Machine.execQPush f s

end Sys2Proof.Machine
end

