-- ==== Sys2Proof/Machine/Fetch.lean ====
section
/-! DEFINITION. Taking the next scheduled operation from the script (log entries 1, 2, 13). -/

namespace Sys2Proof.Machine

/-- The operation at the head of the script and the state with the script moved past it. A micro-operation is taken only
where the script is marked as inside its enclosing operation (R67); taking one ends the mark. -/
def fetch (s : State) : Except Refusal (Instr × State) :=
  if s.script = [] then .error .scriptEnded
  else
    match decode s.script with
    | .error why => .error (.undecodable why)
    | .ok (i, rest) =>
      if i.isMicro && !s.enclosed then .error .microOperation
      else .ok (i, { s with script := rest, enclosed := false })

/-- The state with a table word's operation placed at the head of the script, and marked as enclosed if it is a
micro-operation: all that the very next step needs to run exactly it (log entry 20). -/
def placeWord (s : State) (nbits w : Nat) : State :=
  { s with
    script := tableWordBytes nbits w ++ s.script
    enclosed := match decodeTableWord nbits w with
      | some i => i.isMicro
      | none => s.enclosed }

end Sys2Proof.Machine
end

