-- ==== Sys2Proof/Machine/Step.lean ====
section
/-! DEFINITION. One step: the next scheduled operation of any agent is taken and executed (R9, R54). -/

namespace Sys2Proof.Machine

/-- One atomic step (R14). -/
def step (s : State) : Host.Outcome State Fault Refusal :=
  match fetch s with
  | .ok (i, t) => exec i t
  | .error why => .refused why

/-- The state in which the very next step runs the operation of a table word (log entry 20). -/
def State.withFetchWord (s : State) (nbits w : Nat) : State := placeWord s nbits w

end Sys2Proof.Machine
end

