-- ==== Sys2Proof/Machine/Loop.lean ====
section
/-! DEFINITION. Operations in sequence, for statements about more than one step: a list of operations, the outer iteration
of the loop (R120), a loop with a consumer that always pops, and the synchronizer as a function of the stream (R133). -/

namespace Sys2Proof.Machine

/-- Go on with the next operation if the one before completed or blocked. -/
def andThen (r : Result) (k : State → Result) : Result :=
  match r with
  | .next s => k s
  | .fault why => .fault why
  | .refused why => .refused why

/-- Execute operations one after another (R54), stopping at the first that stops. -/
def execAll : List Instr → State → Result
  | [], s => .next s
  | i :: is, s => andThen (exec i s) (execAll is)

/-- Execute an operation only where the loop stands in its phase. -/
def inPhase (p : Phase) (i : Instr) (s : State) : Result := if s.phase = p then exec i s else .next s

/-- One outer iteration (R120): `SYNC.CHECK` with the transport open, then `SYNC.READ` unless the loop exits, then
`SYNC.VALIDATE` only if the window is full, then `SYNC.DELIVER` only if it is valid. -/
def outerIteration (answer : ReadAnswer) (s : State) : Result :=
  andThen (exec (.syncCheck .isOpen) s) fun s1 =>
    andThen (inPhase .read (.syncRead answer) s1) fun s2 =>
      andThen (inPhase .validate .syncValidate s2) (inPhase .deliver .syncDeliver)

/-- The transport's answer in state `s` when it fails (`none`) or means to return up to `k` bytes: never more than was
asked for, never more than the stream holds (R44). Every admissible answer is the one of some cut. -/
def answerOfCut (s : State) : Option Nat → ReadAnswer
  | none => .err
  | some k => .rx (min k (min s.request s.rx.length))

/-- One outer iteration and, if it delivered, one `Q.POP`: the frame popped, if any, and the state after. -/
def serveOnce (cut : Option Nat) (s : State) : Option (List Frame × State) :=
  match outerIteration (answerOfCut s cut) s with
  | .next t =>
    if t.qlen = 0 then some ([], t)
    else
      match exec (.qPop .block .fresh) t with
      | .next u =>
        match u.outcome with
        | .completed (.frame f) => some ([f], u)
        | _ => none
      | _ => none
  | _ => none

/-- The loop with a consumer that always pops: one outer iteration for each cut; the frames popped, in order. -/
def serve : List (Option Nat) → State → Option (List Frame × State)
  | [], s => some ([], s)
  | cut :: cuts, s =>
    match serveOnce cut s with
    | none => none
    | some (fs, t) =>
      match serve cuts t with
      | none => none
      | some (gs, u) => some (fs ++ gs, u)

/-- The result of `Deframe` (R133). -/
structure Deframed where
  frames : List Frame
  leftover : List Byte
  shed : Nat
deriving DecidableEq, Repr

/-- `Deframe(b, s)` (R133) with as many rounds as `fuel`. -/
def deframeFuel (p : Params) : Nat → List Byte → List Byte → Deframed
  | 0, b, s => ⟨[], b ++ s, 0⟩
  | fuel + 1, b, s =>
    if b.length + s.length < Config.frameLen then ⟨[], b ++ s, 0⟩
    else
      let t := Config.frameLen - b.length
      match frameOfBytes (b ++ s.take t) with
      | none => ⟨[], b ++ s, 0⟩
      | some w =>
        if frameValid p w then
          let d := deframeFuel p fuel [] (s.drop t)
          ⟨w :: d.frames, d.leftover, d.shed⟩
        else
          let d := deframeFuel p fuel ((b ++ s.take t).drop 1) (s.drop t)
          ⟨d.frames, d.leftover, d.shed + 1⟩

/-- `Deframe(b, s)` (R133), for `len(b) <= 12`. Each round reads at least one byte, so `len(s) + 1` rounds are enough. -/
def deframe (p : Params) (b s : List Byte) : Deframed := deframeFuel p (s.length + 1) b s

/-- The bytes of frames one after another. -/
def streamOf (fs : List Frame) : List Byte := (fs.map Frame.bytes).flatten

/-- Whether a diagnostic event is a rejection; each goes with one shed (R124, R178). -/
def DiagEvent.isReject : DiagEvent → Bool
  | .accept _ => false
  | .reject _ _ => true

end Sys2Proof.Machine
end

