-- ==== Sys2Proof/Safety.lean ====
section
/-! DEFINITION. What holds in every state a run from reset reaches: the invariants the spec states of the fields of R20. -/

namespace Sys2Proof.Machine

/-- The invariant of one instance. -/
structure State.Inv (s : State) : Prop where
  /-- `0 <= LEN <= 13` (R22) -/
  len_le : s.len ≤ Config.frameLen
  /-- `LEN = 13` exactly while `PHASE` is `VALIDATE` or `DELIVER` (R22) -/
  full_iff : s.len = Config.frameLen ↔ s.phase = .validate ∨ s.phase = .deliver
  /-- in `DELIVER` the window is valid (R26, R126) -/
  deliver_valid : s.phase = .deliver → ∀ w, s.window = some w → frameValid s.params w = true
  /-- `0 <= QLEN <= 5` (R28, R156) -/
  qlen_le : s.qlen ≤ Config.qCap
  /-- every queued frame is valid (R28) -/
  q_valid : ∀ f ∈ s.q, frameValid s.params f = true
  /-- `RESYNC_CNT` fits its width (R24) -/
  cnt_le : s.resyncCnt ≤ resyncCap s.params
  /-- in `IDLE` the fields of R20 are at their reset values (R26, R36) -/
  idle_clean : s.phase = .idle → s.buf = [] ∧ s.resyncCnt = 0 ∧ s.run = false ∧ s.q = []
  /-- `TCLOSED` is set only by the exit to `STOPPED` (R27, R128) -/
  closed_stopped : s.tclosed = true → s.phase = .stopped
  /-- no micro-operation stands outside its enclosing operation (R67) -/
  not_enclosed : s.enclosed = false

end Sys2Proof.Machine
end

