-- ==== Sys2Proof/Certificates/Slice0/Obligations.lean ====
section
/-! DEFINITION. The statements for the provers. Each docstring names the rule of spec/ it formalises; where a clause rests on
the model's own choice it names the log entry. An equation `exec i s = .next { s with … }` states the frame too: every field
not named is unchanged. Many rules carry the spec's own mark [decision: D<n>] or [derived]: a statement of such a rule is the spec's
inference, not its source's words. -/

open Sys2Proof Sys2Proof.Machine

/-! ## The CRC Engine -/

/-- R83, R84: `T` has 256 entries and `T[i] = CRC16.UPDATE(0x0000, i)`. -/
def Obligations.CrcTableHoldsUpdatesOfZero : Prop :=
  crcTable.length = 256 ∧ ∀ i : Nat, i < 256 → crcTable[i]? = some (crcUpdate 0 (BitVec.ofNat 8 i))

/-- R88: the bitwise and the table-driven form return the same value. -/
def Obligations.CrcFormsAgree : Prop :=
  ∀ (crc : Word) (b : Byte), crcUpdate crc b = crcUpdateTable crc b

/-- R83 and R88 on the machine: `CRC16.UPDATE` completes with the value of the table-driven form, and writes nothing. -/
def Obligations.CrcUpdateReturnsTableForm : Prop :=
  ∀ (s : State) (crc : Word) (b : Byte),
    exec (.crc16Update crc b) s = .next { s with outcome := .completed (.crc (crcUpdateTable crc b)) }

/-- R85 (and R83): `CRC16` completes on any span with the fold of the update over its bytes, first byte first, from
`CRC_INIT`, and writes nothing; on the empty span that is `CRC_INIT`. The fold is over the table-driven form. -/
def Obligations.CrcSpanReturnsFold : Prop :=
  ∀ (s : State) (span : List Byte),
    exec (.crc16 span) s = .next { s with outcome := .completed (.crc
      (span.foldl crcUpdateTable (match s.params.crcInit with | .ffff => 0xFFFF | .zero => 0x0000))) }

/-- R89 (b): the CRC of a concatenation is the fold over the second part from the CRC of the first. -/
def Obligations.CrcIsIncremental : Prop :=
  ∀ (p : Params) (s t : List Byte), crc16 p (s ++ t) = t.foldl crcUpdate (crc16 p s)

/-- R89 (c): the residue. A span followed by its own CRC, low byte first, has CRC 0; and a window has `CrcOk` exactly when the
CRC of all its 13 bytes is 0. -/
def Obligations.CrcResidueIsZero : Prop :=
  (∀ (p : Params) (s : List Byte), crc16 p (s ++ [lowByte (crc16 p s), highByte (crc16 p s)]) = 0) ∧
  (∀ (p : Params) (w : Frame), crcOk p w = true ↔ crc16 p w.bytes = 0)

/-- R89 (d): the CRC is affine over xor on spans of equal length. -/
def Obligations.CrcIsAffine : Prop :=
  ∀ (p : Params) (s t : List Byte), s.length = t.length →
    crc16 p s ^^^ crc16 p t = crc16 { p with crcInit := .zero } (List.zipWith (· ^^^ ·) s t)

/-- R89 (e): spans of equal length that differ in exactly one bit have different CRCs. -/
def Obligations.CrcSeesEverySingleBit : Prop :=
  ∀ (p : Params) (s t : List Byte) (b : Byte) (k : Nat), k < 8 →
    crc16 p (s ++ b :: t) ≠ crc16 p (s ++ (b ^^^ (1#8 <<< k)) :: t)

/-- R198: a frame whose CRC is right under one value of `CRC_INIT` is never right under the other. -/
def Obligations.CrcInitMismatchRejectsEveryFrame : Prop :=
  ∀ (p : Params) (w : Frame),
    crcOk { p with crcInit := .ffff } w = true → crcOk { p with crcInit := .zero } w = false

/-! ## The wire frame -/

/-- R61: bits 7 to 3 of a valid frame's byte 0 are the marker, equivalently `(byte0 and 0xF8) = 0xA8`, so it is one of `0xA8` to
`0xAF`. -/
def Obligations.ValidFrameCarriesMarker : Prop :=
  ∀ (p : Params) (w : Frame), frameValid p w = true →
    w.b0.extractLsb' 3 5 = 0b10101#5 ∧ w.b0 &&& 0xF8 = 0xA8 ∧ 0xA8 ≤ w.b0.toNat ∧ w.b0.toNat ≤ 0xAF

/-- R62: the identifier is `(byte0[2:0] << 8) or byte1`; in the other direction `byte0 = 0xA8 or (id >> 8)` and
`byte1 = id and 0xFF`. -/
def Obligations.IdentifierPlaces : Prop :=
  (∀ w : Frame, w.fields.id.toNat = (w.b0.toNat % 8) * 256 + w.b1.toNat) ∧
  (∀ f : FrameFields, f.toFrame.b0.toNat = 0xA8 + f.id.toNat / 256 ∧ f.toFrame.b1.toNat = f.id.toNat % 256)

/-- R63: `r = byte2[7]`, `e = byte2[6]`, `rsvd = byte2[5:4]`, `dlc = byte2[3:0]`, and back. -/
def Obligations.ControlBytePlaces : Prop :=
  (∀ w : Frame, w.b2.toNat =
    w.fields.r.toNat * 128 + w.fields.e.toNat * 64 + w.fields.rsvd.toNat * 16 + w.fields.dlc.toNat) ∧
  (∀ f : FrameFields, f.toFrame.b2.toNat = f.r.toNat * 128 + f.e.toNat * 64 + f.rsvd.toNat * 16 + f.dlc.toNat)

/-- R60, R66: fields and bytes of a frame determine each other: the fields of a packed frame are the fields packed, and
every 13 bytes that carry the marker are the packing of their fields. -/
def Obligations.FrameFieldsRoundTrip : Prop :=
  (∀ f : FrameFields, f.toFrame.fields = f ∧ markerOk f.toFrame = true) ∧
  (∀ w : Frame, markerOk w = true → w.fields.toFrame = w)

/-- R66: of the 104-bit numbers, byte 0 most significant, exactly those with `match` under `mask` decode to `FRAME13`. -/
def Obligations.FrameMatchUnderMask : Prop :=
  ∀ n : Nat, n < 2 ^ 104 →
    ((∃ f, decodeTableWord 104 n = some (.frame13 f)) ↔
      n &&& 0xF8000000000000000000000000 = 0xA8000000000000000000000000)

/-- R69, R70, R71, R110: any field values at all (reserved bits set, `dlc` 9 to 15, non-zero padding) make a valid frame
once its CRC bytes are right, and `DECODE` succeeds on it, changes nothing, and returns the raw fields, the first
`min(dlc, 8)` payload bytes, and `fmt_warn` exactly when `rsvd != 0` or `dlc > 8`. -/
def Obligations.EveryFieldValueIsAccepted : Prop :=
  ∀ (s : State) (f : FrameFields), frameValid s.params (sealFrame s.params f.toFrame) = true ∧
    exec (.decodeFrame (sealFrame s.params f.toFrame)) s = .next { s with outcome := .completed (.decoded
      { identifier := f.id, isRemote := f.r, isExtended := f.e, dlc := f.dlc
        payload := [f.p0, f.p1, f.p2, f.p3, f.p4, f.p5, f.p6, f.p7].take (min f.dlc.toNat 8)
        fmtWarn := decide (f.rsvd ≠ 0 ∨ 8 < f.dlc.toNat) }) }

/-! ## ENCODE, DECODE, SEND -/

/-- R100: `ENCODE` of a legal identifier completes, writes nothing, and returns the frame of its pseudocode and
`truncated = (len(payload) > 8)`. -/
def Obligations.EncodeReturnsFrame : Prop :=
  ∀ (s : State) (identifier : Word) (r e : Bool) (payload : List Byte), identifier ≤ 0x7FF →
    ∃ f : Frame,
      exec (.encodeMsg identifier r e payload) s =
        .next { s with outcome := .completed (.encoded f (decide (8 < payload.length))) } ∧
      f.b0 = 0xA8#8 ||| (identifier >>> 8).setWidth 8 ∧
      f.b1 = identifier.setWidth 8 ∧
      f.b2 = (if r then 0x80#8 else 0#8) ||| (if e then 0x40#8 else 0#8) ||| BitVec.ofNat 8 (min payload.length 8) ∧
      payloadField f = (payload ++ [0, 0, 0, 0, 0, 0, 0, 0]).take 8 ∧
      f.b11 = (crc16 s.params f.span).setWidth 8 ∧
      f.b12 = (crc16 s.params f.span >>> 8).setWidth 8

/-- R101, R161: an identifier above `0x7FF` is rejected before anything else, whatever the flags and the payload, by `ENCODE`
and by a `SEND`: the error kind and the identifier are the result, nothing is written to the transport, no state changes;
an identifier up to `0x7FF` is not rejected. -/
def Obligations.IdentifierRangeIsTested : Prop :=
  (∀ (s : State) (identifier : Word) (r e : Bool) (a : WriteAnswer) (payload : List Byte), 0x7FF < identifier →
    exec (.encodeMsg identifier r e payload) s =
      .next { s with outcome := .completed (.error (.invalidIdentifier identifier)) } ∧
    exec (.send identifier r e a payload) s =
      .next { s with outcome := .completed (.error (.invalidIdentifier identifier)) }) ∧
  (∀ (s : State) (identifier : Word) (r e : Bool) (payload : List Byte), identifier ≤ 0x7FF →
    ∃ f truncated, exec (.encodeMsg identifier r e payload) s =
      .next { s with outcome := .completed (.encoded f truncated) })

/-- R102: bytes 8 and later of an offered payload have no effect on the frame; they only raise `truncated`. -/
def Obligations.LongPayloadIsTruncated : Prop :=
  ∀ (s : State) (identifier : Word) (r e : Bool) (payload : List Byte), identifier ≤ 0x7FF → 8 < payload.length →
    ∃ f : Frame,
      exec (.encodeMsg identifier r e payload) s = .next { s with outcome := .completed (.encoded f true) } ∧
      exec (.encodeMsg identifier r e (payload.take 8)) s = .next { s with outcome := .completed (.encoded f false) } ∧
      f.fields.dlc = 8

/-- R100, R110: every frame `ENCODE` returns is valid, has `rsvd = 0` (R69) and a `dlc` of at most 8 (R70). -/
def Obligations.EncodedFramesAreValid : Prop :=
  ∀ (s t : State) (identifier : Word) (r e : Bool) (payload : List Byte) (f : Frame) (truncated : Bool),
    exec (.encodeMsg identifier r e payload) s = .next t → t.outcome = .completed (.encoded f truncated) →
    frameValid s.params f = true ∧ f.fields.rsvd = 0 ∧ f.fields.dlc.toNat ≤ 8

/-- R103, R104, R105, R171: `DECODE` tests the CRC first and the marker second (the spec's decision D7), returns the fields of its
pseudocode when both hold, with the payload cut at 8 bytes and `fmt_warn` as its decision D8 has them, and in every case completes and
changes nothing else. -/
def Obligations.DecodeChecksCrcThenMarker : Prop :=
  ∀ (s : State) (w : Frame),
    (crcOk s.params w = false →
      exec (.decodeFrame w) s = .next { s with outcome := .completed (.error (.checksumMismatch w)) }) ∧
    (crcOk s.params w = true → markerOk w = false →
      exec (.decodeFrame w) s = .next { s with outcome := .completed (.error (.markerMismatch w)) }) ∧
    (crcOk s.params w = true → markerOk w = true →
      ∃ m : Message, exec (.decodeFrame w) s = .next { s with outcome := .completed (.decoded m) } ∧
        m.identifier.toNat = (w.b0.toNat % 8) * 256 + w.b1.toNat ∧
        m.isRemote = decide (128 ≤ w.b2.toNat) ∧
        m.isExtended = decide (64 ≤ w.b2.toNat % 128) ∧
        m.dlc.toNat = w.b2.toNat % 16 ∧
        m.payload = ([w.b3, w.b4, w.b5, w.b6, w.b7, w.b8, w.b9, w.b10]).take (w.b2.toNat % 16) ∧
        m.fmtWarn = decide (w.b2.toNat / 16 % 4 ≠ 0 ∨ 8 < w.b2.toNat % 16))

/-- R106: `decode(encode(m)) = m` for every legal identifier, any flags and a payload of at most 8 bytes. -/
def Obligations.DecodeOfEncodeReturnsMessage : Prop :=
  ∀ (s : State) (identifier : Word) (r e : Bool) (payload : List Byte), identifier ≤ 0x7FF → payload.length ≤ 8 →
    ∃ f : Frame,
      exec (.encodeMsg identifier r e payload) s = .next { s with outcome := .completed (.encoded f false) } ∧
      exec (.decodeFrame f) s = .next { s with outcome := .completed (.decoded
        { identifier := identifier.setWidth 11, isRemote := r, isExtended := e
          dlc := BitVec.ofNat 4 payload.length, payload := payload, fmtWarn := false }) }

/-- R107: any single bit flipped in any of the 13 bytes of a valid frame makes `DECODE` fail with `ChecksumMismatch`. -/
def Obligations.SingleBitFlipFailsDecode : Prop :=
  ∀ (s : State) (w v : Frame) (a c : List Byte) (b : Byte) (k : Nat), k < 8 → frameValid s.params w = true →
    w.bytes = a ++ b :: c → v.bytes = a ++ (b ^^^ (1#8 <<< k)) :: c →
    exec (.decodeFrame v) s = .next { s with outcome := .completed (.error (.checksumMismatch v)) }

/-- R108: `SEND` of a legal identifier writes `ENCODE`'s frame in one write, returns the transport's answer (success or
`WriteError`, not retried) with `truncated`, and touches no field of R20. That the answer is an operand: log entry 15. -/
def Obligations.SendWritesOneFrame : Prop :=
  ∀ (s : State) (identifier : Word) (r e : Bool) (a : WriteAnswer) (payload : List Byte), identifier ≤ 0x7FF →
    ∃ (f : Frame) (truncated : Bool),
      exec (.encodeMsg identifier r e payload) s = .next { s with outcome := .completed (.encoded f truncated) } ∧
      exec (.send identifier r e a payload) s =
        .next { s with tx := s.tx ++ [{ frame := f, answer := a }], outcome := .completed (.sent a truncated) }

/-! ## HOST control -/

/-- R190, R36: `RESET` completes in any state; every field of R20 takes its reset value; the configuration, the outbound
stream, the pending calls, the diagnostics and the script stay; with no read outstanding the inbound stream stays too, and
with one it loses at most the bytes that read asked for (U16); that the loss falls in this step is log entry 14. -/
def Obligations.ResetGivesResetValues : Prop :=
  ∀ s : State, ∃ (rx : List Byte) (draws : Nat),
    exec .reset s = .next { s with
      buf := [], resyncCnt := 0, run := false, phase := .idle, tclosed := false, q := []
      rx := rx, draws := draws, outcome := .completed .unit } ∧
    (s.phase ≠ .read → rx = s.rx ∧ draws = s.draws) ∧
    (s.phase = .read → ∃ k, k ≤ 13 - s.len ∧ rx = s.rx.drop k)

/-- R36: the state right after reset; R37: its phase is `IDLE`. The default parameters are those of R10. -/
def Obligations.ResetStateValues : Prop :=
  State.reset.len = 0 ∧ State.reset.resyncCnt = 0 ∧ State.reset.run = false ∧ State.reset.phase = .idle ∧
  State.reset.tclosed = false ∧ State.reset.qlen = 0 ∧
  crcInitValue State.reset.params.crcInit = 0xFFFF ∧ State.reset.params.resyncW = 16

/-- R121: `START` in `IDLE` sets `RUN` and goes to `CHECK`, touching nothing else; in any other phase it is refused. -/
def Obligations.StartOnlyFromIdle : Prop :=
  ∀ s : State,
    (s.phase = .idle →
      exec .start s = .next { s with run := true, phase := .check, outcome := .completed .unit }) ∧
    (s.phase ≠ .idle → exec .start s = .refused .startNotIdle)

/-- R127: `STOP` completes in any phase and writes `RUN` only. -/
def Obligations.StopClearsRunOnly : Prop :=
  ∀ s : State, exec .stop s = .next { s with run := false, outcome := .completed .unit }

/-- R197: while delivery is blocked on a full queue nothing but a pop or a reset moves the loop: whatever operation runs,
the phase stays `DELIVER`, and buffer and queue stay as they are. -/
def Obligations.OnlyPopFreesBlockedDelivery : Prop :=
  ∀ (s t : State) (i : Instr), s.phase = .deliver → s.qlen = 5 → i.isMicro = false →
    (∀ mode caller, i ≠ .qPop mode caller) → (∀ mode caller, i ≠ .recv mode caller) → i ≠ .reset →
    exec i s = .next t → t.phase = .deliver ∧ t.buf = s.buf ∧ t.q = s.q

/-! ## The synchronizer -/

/-- R122: `SYNC.CHECK` in `CHECK` tests `RUN` first, then the transport: stopped, or stopped with `TCLOSED` latched, or on to
`READ`; nothing else changes; in another phase it is refused (R129). `IsOpen()`'s answer is an operand: log entry 4. -/
def Obligations.CheckTestsRunThenOpen : Prop :=
  ∀ s : State,
    (s.phase = .check → s.run = false → ∀ a,
      exec (.syncCheck a) s = .next { s with phase := .stopped, outcome := .completed .unit }) ∧
    (s.phase = .check → s.run = true →
      exec (.syncCheck .closed) s = .next { s with phase := .stopped, tclosed := true, outcome := .completed .unit } ∧
      exec (.syncCheck .isOpen) s = .next { s with phase := .read, outcome := .completed .unit }) ∧
    (s.phase ≠ .check → ∀ a, exec (.syncCheck a) s = .refused .stepNotEnabled)

/-- R45, R123, R168: a read answered with no bytes or with an error changes `PHASE` back to `CHECK` and nothing else. -/
def Obligations.EmptyOrFailedReadRetries : Prop :=
  ∀ s : State, s.phase = .read →
    exec (.syncRead (.rx 0)) s = .next { s with phase := .check, outcome := .completed .unit } ∧
    exec (.syncRead .err) s = .next { s with phase := .check, outcome := .completed .unit }

/-- R46, R123: the next `k` bytes of the stream, `1 <= k <= 13 - LEN`, are appended in order at the end of `BUF`, `LEN` grows by
`k`, and the loop goes to `VALIDATE` exactly when `LEN` is then 13, else to `CHECK`; nothing else changes. -/
def Obligations.ReadAppendsStreamBytes : Prop :=
  ∀ (s : State) (k : Nat), s.phase = .read → 1 ≤ k → k ≤ 13 - s.len → k ≤ s.rx.length →
    ∃ bytes rest : List Byte, s.rx = bytes ++ rest ∧ bytes.length = k ∧
      exec (.syncRead (.rx k)) s = .next { s with
        buf := s.buf ++ bytes, rx := rest
        phase := if s.len + k = 13 then .validate else .check
        outcome := .completed .unit }

/-- R44, U9, R202: an answer longer than the request `13 - LEN` is refused. A shorter one of bytes the stream does not hold yet
leaves the read outstanding and everything as it is (log entry 5). In another phase the step is refused (R129). -/
def Obligations.ReadNeverExceedsRequest : Prop :=
  ∀ (s : State) (k : Nat),
    (s.phase = .read → 1 ≤ k → 13 - s.len < k → exec (.syncRead (.rx k)) s = .refused .answerTooLong) ∧
    (s.phase = .read → 1 ≤ k → k ≤ 13 - s.len → s.rx.length < k →
      exec (.syncRead (.rx k)) s = .next { s with outcome := .blocked .readOutstanding }) ∧
    (s.phase ≠ .read → ∀ a, exec (.syncRead a) s = .refused .stepNotEnabled)

/-- R124, R125: in `VALIDATE` a window without the marker is rejected as `MarkerMismatch`, one with it and a wrong CRC as
`ChecksumMismatch`, and either way exactly one byte is shed from the front, the counter rises by one up to its cap, and the
loop goes to `CHECK`; a valid window goes to `DELIVER` and nothing else of R20 changes. The event of R178 joins the ghost trace
(log entry 11), and the sink takes it or not. -/
def Obligations.ValidateShedsOneByteOrAccepts : Prop :=
  ∀ (s : State) (w : Frame), s.phase = .validate → s.buf = w.bytes →
    ∃ sink : List DiagEvent,
      (markerOk w = false →
        exec .syncValidate s = .next { s with
          buf := w.bytes.tail, phase := .check, resyncCnt := min (s.resyncCnt + 1) (2 ^ s.params.resyncW - 1)
          emitted := s.emitted ++ [.reject w .markerMismatch], sink := sink, draws := s.draws + 1
          outcome := .completed .unit } ∧ (sink = s.sink ∨ sink = s.sink ++ [.reject w .markerMismatch])) ∧
      (markerOk w = true → crcOk s.params w = false →
        exec .syncValidate s = .next { s with
          buf := w.bytes.tail, phase := .check, resyncCnt := min (s.resyncCnt + 1) (2 ^ s.params.resyncW - 1)
          emitted := s.emitted ++ [.reject w .checksumMismatch], sink := sink, draws := s.draws + 1
          outcome := .completed .unit } ∧ (sink = s.sink ∨ sink = s.sink ++ [.reject w .checksumMismatch])) ∧
      (frameValid s.params w = true →
        exec .syncValidate s = .next { s with
          phase := .deliver
          emitted := s.emitted ++ [.accept w], sink := sink, draws := s.draws + 1
          outcome := .completed .unit } ∧ (sink = s.sink ∨ sink = s.sink ++ [.accept w]))

/-- R47, R125: the shed alone is done only on a full buffer: bytes 1 to 12 move down one place, `LEN` is 12, place 12 holds no value,
the counter rises up to its cap (R24, the spec's decision D11), `PHASE` is `CHECK`, nothing else changes. On any other buffer it does
not go on: log entry 17. -/
def Obligations.ShedEvictsFrontByte : Prop :=
  ∀ s : State,
    (s.len = 13 →
      ∃ t, exec .syncShed s = .next t ∧ t.len = 12 ∧ (∀ i, i < 12 → t.buf[i]? = s.buf[i + 1]?) ∧ t.buf[12]? = none ∧
        t.resyncCnt = min (s.resyncCnt + 1) (2 ^ s.params.resyncW - 1) ∧ t.phase = .check ∧
        t = { s with buf := t.buf, resyncCnt := t.resyncCnt, phase := t.phase, outcome := .completed .unit }) ∧
    (s.len ≠ 13 → ∀ t, exec .syncShed s ≠ .next t)

/-- R126, R52: with room in the queue `SYNC.DELIVER` appends a copy of the window, empties the buffer, clears the counter and
goes to `CHECK`. With five frames queued it is blocked: nothing of the machine changes (log entry 8); and meanwhile SYNC has no
other step, so it reads nothing and does not sample `RUN`. -/
def Obligations.DeliverPushesWindowOrBlocks : Prop :=
  ∀ s : State, s.phase = .deliver →
    (∀ w : Frame, s.buf = w.bytes → s.qlen < 5 →
      exec .syncDeliver s = .next { s with
        q := s.q ++ [w], buf := [], resyncCnt := 0, phase := .check, outcome := .completed .unit }) ∧
    (s.qlen = 5 → exec .syncDeliver s = .next { s with outcome := .blocked .queueFull }) ∧
    (∀ a b, exec (.syncCheck a) s = .refused .stepNotEnabled ∧ exec (.syncRead b) s = .refused .stepNotEnabled ∧
      exec .syncValidate s = .refused .stepNotEnabled)

/-- R23, U7: reading `BUF[i]` is a fault exactly when `i >= LEN`; and a step that would read a whole window (validate, shed,
deliver with room in the queue) faults, in the phase it is enabled in, when `LEN` is not 13. -/
def Obligations.ByteWithoutValueFaults : Prop :=
  (∀ (s : State) (i : Nat), s.readBuf i = .error .bufNoValue ↔ s.len ≤ i) ∧
  (∀ s : State, s.len ≠ 13 →
    (s.phase = .validate → exec .syncValidate s = .fault .bufNoValue) ∧
    (s.phase = .deliver → s.qlen < 5 → exec .syncDeliver s = .fault .bufNoValue) ∧
    exec .syncShed s = .fault .bufNoValue)

/-- R129: the transition table of `PHASE`. A step of a HOST, SYNC or TRANSPORT operation that ends in another phase, or in the
phases the table names, is a row of the table with its condition; everything else leaves `PHASE` as it is. -/
def Obligations.PhaseMovesByTable : Prop :=
  ∀ (s t : State) (i : Instr), i.isMicro = false → exec i s = .next t →
    (i = .reset ∧ t.phase = .idle) ∨
    (i = .start ∧ s.phase = .idle ∧ t.phase = .check ∧ t.run = true) ∨
    (∃ a, i = .syncCheck a ∧ s.phase = .check ∧
      ((s.run = false ∧ t.phase = .stopped ∧ t.tclosed = s.tclosed) ∨
       (s.run = true ∧ a = .closed ∧ t.phase = .stopped ∧ t.tclosed = true) ∨
       (s.run = true ∧ a = .isOpen ∧ t.phase = .read ∧ t.tclosed = s.tclosed))) ∨
    (∃ a, i = .syncRead a ∧ s.phase = .read ∧
      (((a = .rx 0 ∨ a = .err) ∧ t.phase = .check ∧ t.len = s.len) ∨
       (∃ k, a = .rx k ∧ 1 ≤ k ∧ t.len = s.len + k ∧ t.len ≠ 13 ∧ t.phase = .check) ∨
       (∃ k, a = .rx k ∧ 1 ≤ k ∧ t.len = s.len + k ∧ t.len = 13 ∧ t.phase = .validate) ∨
       (t.outcome = .blocked .readOutstanding ∧ t.phase = .read ∧ t.len = s.len))) ∨
    (i = .syncValidate ∧ s.phase = .validate ∧ ∃ w, s.window = some w ∧
      ((frameValid s.params w = false ∧ t.phase = .check ∧ t.len = 12) ∨
       (frameValid s.params w = true ∧ t.phase = .deliver ∧ t.len = 13))) ∨
    (i = .syncDeliver ∧ s.phase = .deliver ∧
      ((s.qlen < 5 ∧ t.phase = .check ∧ t.qlen = s.qlen + 1 ∧ t.len = 0 ∧ t.resyncCnt = 0) ∨
       (5 ≤ s.qlen ∧ t.phase = .deliver ∧ t.outcome = .blocked .queueFull))) ∨
    (t.phase = s.phase ∧ i ≠ .reset ∧ i ≠ .start ∧ (∀ a, i ≠ .syncCheck a) ∧ (∀ a, i ≠ .syncRead a) ∧
      i ≠ .syncValidate ∧ i ≠ .syncDeliver)

/-- R131: forward progress. A step reaches `VALIDATE` only by a read of at least one new byte of the stream; a validation leaves
`VALIDATE`, after a reject the next read asks for exactly one byte, after a delivery for thirteen. -/
def Obligations.ForwardProgress : Prop :=
  ∀ (s t : State) (i : Instr), i.isMicro = false → exec i s = .next t →
    (s.phase ≠ .validate → t.phase = .validate →
      ∃ bytes : List Byte, 1 ≤ bytes.length ∧ i = .syncRead (.rx bytes.length) ∧ s.rx = bytes ++ t.rx ∧ t.buf = s.buf ++ bytes) ∧
    (i = .syncValidate → t.phase ≠ .validate ∧ (t.phase = .check → t.request = 1)) ∧
    (i = .syncDeliver → t.phase = .check → t.request = 13)

/-- R68, R104, R124: the three classes. Every window is in one of them; `SYNC.VALIDATE` accepts exactly the valid ones and otherwise
sheds one byte and names the class, marker first; `DECODE`, which tests the CRC first, succeeds on exactly the same ones. -/
def Obligations.SyncAndDecodeAcceptTheSameWindows : Prop :=
  ∀ (s : State) (w : Frame), s.phase = .validate → s.buf = w.bytes →
    ∃ t : State, exec .syncValidate s = .next t ∧
      ((classify s.params w = .valid ∧ t.phase = .deliver ∧ t.buf = s.buf ∧ t.emitted = s.emitted ++ [.accept w]) ∨
       (classify s.params w = .checksumMismatch ∧ t.phase = .check ∧ t.buf = s.buf.tail ∧
          t.emitted = s.emitted ++ [.reject w .checksumMismatch]) ∨
       (classify s.params w = .markerMismatch ∧ t.phase = .check ∧ t.buf = s.buf.tail ∧
          t.emitted = s.emitted ++ [.reject w .markerMismatch])) ∧
      ((∃ m, exec (.decodeFrame w) s = .next { s with outcome := .completed (.decoded m) }) ↔ classify s.params w = .valid)

/-- R128: `STOPPED` is terminal until `RESET`: any other operation that completes leaves `PHASE`, `TCLOSED` and the bytes of `BUF` as
they are, and the queue only loses frames from its head. -/
def Obligations.StoppedIsTerminal : Prop :=
  ∀ (s t : State) (i : Instr), s.phase = .stopped → i.isMicro = false → i ≠ .reset → exec i s = .next t →
    t.phase = .stopped ∧ t.tclosed = s.tclosed ∧ t.buf = s.buf ∧ ∃ popped, s.q = popped ++ t.q

/-- R39, R175, R194: who writes what. Only SYNC steps and `RESET` change `BUF`, `LEN`, `RESYNC_CNT`; only `START`, `STOP` and `RESET`
change `RUN`; only SYNC steps, `START` and `RESET` change `PHASE`; only `SYNC.CHECK` and `RESET` change `TCLOSED`; only `SYNC.DELIVER` adds to `Q`, and nothing but a pop or `RESET` takes
from it; the parameters are written by nothing (R81, R191). -/
def Obligations.EachFieldHasItsWriters : Prop :=
  ∀ (s t : State) (i : Instr), i.isMicro = false → exec i s = .next t →
    t.params = s.params ∧
    (t.buf ≠ s.buf ∨ t.resyncCnt ≠ s.resyncCnt →
      i = .reset ∨ (∃ a, i = .syncRead a) ∨ i = .syncValidate ∨ i = .syncDeliver) ∧
    (t.run ≠ s.run → i = .reset ∨ i = .start ∨ i = .stop) ∧
    (t.phase ≠ s.phase → i = .reset ∨ i = .start ∨ (∃ a, i = .syncCheck a) ∨ (∃ a, i = .syncRead a) ∨
      i = .syncValidate ∨ i = .syncDeliver) ∧
    (t.tclosed ≠ s.tclosed → i = .reset ∨ ∃ a, i = .syncCheck a) ∧
    (t.q ≠ s.q →
      (i = .reset ∧ t.q = []) ∨
      (i = .syncDeliver ∧ ∃ w, t.q = s.q ++ [w] ∧ s.buf = w.bytes) ∨
      (((∃ mode caller, i = .qPop mode caller) ∨ ∃ mode caller, i = .recv mode caller) ∧ ∃ f, s.q = f :: t.q))

/-! ## The queue -/

/-- R151: `Q.PUSH` stores a copy at the tail while there is room; with five frames queued the producer is blocked and nothing
changes (log entry 8). -/
def Obligations.PushAppendsOrBlocks : Prop :=
  ∀ (s : State) (f : Frame),
    (s.qlen < 5 → exec (.qPush f) s = .next { s with q := s.q ++ [f], outcome := .completed .unit }) ∧
    (s.qlen = 5 → exec (.qPush f) s = .next { s with outcome := .blocked .queueFull })

/-- R152, R153, R154: a new `Q.POP` of either mode removes and returns the oldest frame when there is one, whatever the phase; on
an empty queue of a stopped loop it returns `Empty` at once. -/
def Obligations.PopReturnsOldestFrame : Prop :=
  ∀ (s : State) (mode : PopMode),
    (∀ f rest, s.q = f :: rest →
      exec (.qPop mode .fresh) s = .next { s with q := rest, outcome := .completed (.frame f) }) ∧
    (s.q = [] → s.phase = .stopped →
      exec (.qPop mode .fresh) s = .next { s with outcome := .completed .empty })

/-- R152, R153 on an empty queue of a loop that has not stopped: `Q.POP block` and `RECV block` block, and the call is pending (log
entry 9); with a timeout the call returns `Empty` or becomes pending, whatever the free value (U10). -/
def Obligations.PopOnEmptyQueueWaits : Prop :=
  ∀ s : State, s.q = [] → s.phase ≠ .stopped →
    exec (.qPop .block .fresh) s = .next { s with
      pendingPops := s.pendingPops ++ [{ op := .pop, mode := .block }], outcome := .blocked .queueEmpty } ∧
    exec (.recv .block .fresh) s = .next { s with
      pendingPops := s.pendingPops ++ [{ op := .recv, mode := .block }], outcome := .blocked .queueEmpty } ∧
    (exec (.qPop .timeout .fresh) s = .next { s with draws := s.draws + 1, outcome := .completed .empty } ∨
      exec (.qPop .timeout .fresh) s = .next { s with
        draws := s.draws + 1
        pendingPops := s.pendingPops ++ [{ op := .pop, mode := .timeout }], outcome := .blocked .queueEmpty }) ∧
    (exec (.recv .timeout .fresh) s = .next { s with draws := s.draws + 1, outcome := .completed (.received none false) } ∨
      exec (.recv .timeout .fresh) s = .next { s with
        draws := s.draws + 1
        pendingPops := s.pendingPops ++ [{ op := .recv, mode := .timeout }], outcome := .blocked .queueEmpty })

/-- R155, R34 (d): a pending `Q.POP` that gets its chance removes and returns the oldest frame and is no longer pending; on an
empty queue of a stopped loop it returns `Empty`; on an empty queue otherwise a blocking one stays pending and changes nothing, and one
with a timeout returns `Empty` and is no longer pending, or stays pending, whatever the free value (R153, U10, log entry 10); there is
no step for a call that is not pending. Log entry 9. -/
def Obligations.PendingPopGetsItsChance : Prop :=
  ∀ (s : State) (mode : PopMode),
    (PendingCall.mk .pop mode ∈ s.pendingPops →
      (∀ f rest, s.q = f :: rest →
        exec (.qPop mode .pending) s = .next { s with
          q := rest, pendingPops := s.pendingPops.erase { op := .pop, mode := mode }
          outcome := .completed (.frame f) }) ∧
      (s.q = [] → s.phase = .stopped →
        exec (.qPop mode .pending) s = .next { s with
          pendingPops := s.pendingPops.erase { op := .pop, mode := mode }, outcome := .completed .empty }) ∧
      (s.q = [] → s.phase ≠ .stopped → mode = .block →
        exec (.qPop mode .pending) s = .next { s with outcome := .blocked .queueEmpty }) ∧
      (s.q = [] → s.phase ≠ .stopped → mode = .timeout →
        exec (.qPop mode .pending) s = .next { s with
          draws := s.draws + 1, pendingPops := s.pendingPops.erase { op := .pop, mode := mode }
          outcome := .completed .empty } ∨
        exec (.qPop mode .pending) s = .next { s with draws := s.draws + 1, outcome := .blocked .queueEmpty })) ∧
    (PendingCall.mk .pop mode ∉ s.pendingPops → exec (.qPop mode .pending) s = .refused .noPendingCall)

/-- R109, R153, R155: `RECV` pops the oldest frame and returns its message and `false`; every queued frame is valid (R28), so `DECODE`
does not raise; on an empty queue of a stopped loop it returns `(None, false)`. A pending `RECV` (R34 (d), log entry 9) does the same and
is no longer pending; on an empty queue otherwise a blocking one stays pending, and one with a timeout returns `(None, false)` and is no
longer pending, or stays pending, whatever the free value (log entry 10); there is no step for a call that is not pending. -/
def Obligations.RecvDecodesOldestFrame : Prop :=
  ∀ (s : State) (mode : PopMode),
    (∀ f rest, s.q = f :: rest → frameValid s.params f = true →
      ∃ m : Message,
        exec (.decodeFrame f) s = .next { s with outcome := .completed (.decoded m) } ∧
        exec (.recv mode .fresh) s = .next { s with q := rest, outcome := .completed (.received (some m) false) } ∧
        (PendingCall.mk .recv mode ∈ s.pendingPops →
          exec (.recv mode .pending) s = .next { s with
            q := rest, pendingPops := s.pendingPops.erase { op := .recv, mode := mode }
            outcome := .completed (.received (some m) false) })) ∧
    (s.q = [] → s.phase = .stopped →
      exec (.recv mode .fresh) s = .next { s with outcome := .completed (.received none false) }) ∧
    (PendingCall.mk .recv mode ∈ s.pendingPops → s.q = [] →
      (s.phase = .stopped →
        exec (.recv mode .pending) s = .next { s with
          pendingPops := s.pendingPops.erase { op := .recv, mode := mode }
          outcome := .completed (.received none false) }) ∧
      (s.phase ≠ .stopped → mode = .block →
        exec (.recv mode .pending) s = .next { s with outcome := .blocked .queueEmpty }) ∧
      (s.phase ≠ .stopped → mode = .timeout →
        exec (.recv mode .pending) s = .next { s with
          draws := s.draws + 1, pendingPops := s.pendingPops.erase { op := .recv, mode := mode }
          outcome := .completed (.received none false) } ∨
        exec (.recv mode .pending) s = .next { s with draws := s.draws + 1, outcome := .blocked .queueEmpty })) ∧
    (PendingCall.mk .recv mode ∉ s.pendingPops → exec (.recv mode .pending) s = .refused .noPendingCall)

/-! ## Frames on the wire, isolation, the whole machine -/

/-- R48, R60, R120: a frame the transport carries joins the end of the inbound stream, its 13 bytes in order; nothing looks at it
and nothing else changes. That `FRAME13` is a step of the transport is the model's choice: log entry 3. -/
def Obligations.FrameJoinsInboundStream : Prop :=
  ∀ (s : State) (f : FrameFields), ∃ w : Frame, markerOk w = true ∧ w.fields = f ∧
    exec (.frame13 f) s = .next { s with rx := s.rx ++ w.bytes, outcome := .completed .unit }

/-- R29, R39: the HOST cannot observe `BUF`. A HOST operation other than `RESET` does the same whatever the buffer holds: the same
results and status, and the buffer as it was. -/
def Obligations.HostCannotObserveBuffer : Prop :=
  ∀ (s t : State) (i : Instr) (b : List Byte), i.isMicro = false → i ≠ .reset →
    (∀ a, i ≠ .syncCheck a) → (∀ a, i ≠ .syncRead a) → i ≠ .syncValidate → i ≠ .syncDeliver →
    exec i s = .next t → t.buf = s.buf ∧ exec i { s with buf := b } = .next { t with buf := b }

/-- R178, R201: diagnostics never influence the primary path. From states that differ only in what was emitted and what the sink
holds, every operation ends the same way, in states that differ only there. -/
def Obligations.DiagnosticsHaveNoInfluence : Prop :=
  ∀ (s : State) (i : Instr) (es ks : List DiagEvent),
    (∀ t, exec i s = .next t →
      ∃ es' ks', exec i { s with emitted := es, sink := ks } = .next { t with emitted := es', sink := ks' }) ∧
    (∀ why, exec i s = .fault why → exec i { s with emitted := es, sink := ks } = .fault why) ∧
    (∀ why, exec i s = .refused why → exec i { s with emitted := es, sink := ks } = .refused why)

/-- R133: `deframe` is the function of the rule: its three equations, for `len(b) <= 12`. -/
def Obligations.DeframeMeetsItsEquations : Prop :=
  ∀ (p : Params) (b s : List Byte), b.length ≤ 12 →
    (b.length + s.length < 13 → deframe p b s = ⟨[], b ++ s, 0⟩) ∧
    (∀ (w : Frame) (rest : List Byte), b ++ s = w.bytes ++ rest →
      (frameValid p w = true → deframe p b s =
        ⟨w :: (deframe p [] rest).frames, (deframe p [] rest).leftover, (deframe p [] rest).shed⟩) ∧
      (frameValid p w = false → deframe p b s =
        ⟨(deframe p w.bytes.tail rest).frames, (deframe p w.bytes.tail rest).leftover,
          (deframe p w.bytes.tail rest).shed + 1⟩))

/-- R132: resynchronization. If what is in the window and to come is some bytes at none of whose positions a window is valid
by accident, followed by valid frames, then exactly those bytes are shed, one each, and every frame is delivered. -/
def Obligations.ResyncShedsOnlyTheStrayBytes : Prop :=
  ∀ (p : Params) (b s junk : List Byte) (fs : List Frame), b.length ≤ 12 → fs ≠ [] →
    (∀ f ∈ fs, frameValid p f = true) → b ++ s = junk ++ streamOf fs →
    (∀ k < junk.length, ∀ w : Frame, w.bytes = ((b ++ s).drop k).take 13 → frameValid p w = false) →
    deframe p b s = ⟨fs, [], junk.length⟩

/-- R50, R133: the loop is `Deframe`, however the transport cuts the stream into answers, empty and failed reads included. With a
transport that stays open, `RUN` set and a consumer that always pops, from `CHECK` with an empty queue, any sequence of outer
iterations goes through; the frames popped, the bytes left in `BUF` and the number of rejects are those of `Deframe` on the bytes
consumed, and the bytes consumed are the next of the stream. That an answer is a count of the next bytes: log entry 5. -/
def Obligations.LoopDeliversDeframe : Prop :=
  ∀ (s : State) (cuts : List (Option Nat)), s.phase = .check → s.run = true → s.q = [] → s.len ≤ 12 →
    ∃ (fs : List Frame) (t : State) (consumed : List Byte) (events : List DiagEvent),
      serve cuts s = some (fs, t) ∧ t.phase = .check ∧ t.q = [] ∧ s.rx = consumed ++ t.rx ∧
      t.emitted = s.emitted ++ events ∧
      deframe s.params s.buf consumed = ⟨fs, t.buf, events.countP DiagEvent.isReject⟩

/-- R3, R106, R156 (c): end to end. A frame encoded from a legal message, carried to a receiver with the same parameters whose
window and stream are empty, goes through the loop into the queue, and `RECV` returns the message it was encoded from. That the frame is
carried by a step `FRAME13` and the transport's answers are operands: log entries 3, 4, 5. -/
def Obligations.EncodedMessageIsReceived : Prop :=
  ∀ (s : State) (identifier : Word) (r e : Bool) (payload : List Byte), identifier ≤ 0x7FF → payload.length ≤ 8 →
    s.phase = .check → s.run = true → s.buf = [] → s.rx = [] → s.q = [] →
    ∃ (f : Frame) (t : State),
      exec (.encodeMsg identifier r e payload) s = .next { s with outcome := .completed (.encoded f false) } ∧
      execAll [.frame13 f.fields, .syncCheck .isOpen, .syncRead (.rx 13), .syncValidate, .syncDeliver,
        .recv .block .fresh] s = .next t ∧
      t.outcome = .completed (.received (some
        { identifier := identifier.setWidth 11, isRemote := r, isExtended := e
          dlc := BitVec.ofNat 4 payload.length, payload := payload, fmtWarn := false }) false) ∧
      t.phase = .check ∧ t.buf = [] ∧ t.rx = [] ∧ t.q = []

/-- R67: when the script begins with the encoding of a well-formed operation, a step is that operation on the state whose script is
past it. A micro-operation is taken only where the script is marked as inside its enclosing operation; otherwise the step is
refused. The script and its bytes are the model's choice: log entries 1, 2, 13. -/
def Obligations.StepRunsScheduledOperation : Prop :=
  ∀ (s : State) (i : Instr) (rest : List Byte), i.wellFormed = true → s.script = encode i ++ rest →
    (i.isMicro = false ∨ s.enclosed = true → step s = exec i { s with script := rest, enclosed := false }) ∧
    (i.isMicro = true → s.enclosed = false → step s = .refused .microOperation)

/-- The model's log entry 1: with the script at its end no step has been chosen, and the machine does not move; bytes that are no
operation are refused by name. -/
def Obligations.StepStopsWithoutOperation : Prop :=
  ∀ s : State,
    (s.script = [] → step s = .refused .scriptEnded) ∧
    (∀ why, s.script ≠ [] → decode s.script = .error why → step s = .refused (.undecodable why))

/-- R22, R24, R26, R27, R28, R156 (a) (c): the invariant holds of the next state of every step that starts in it. -/
def Obligations.StepKeepsInvariant : Prop :=
  ∀ s t : State, s.Inv → step s = .next t → t.Inv

/-- The invariant holds right after reset. -/
def Obligations.ResetMeetsInvariant : Prop := State.reset.Inv

/-- R60, R67, log entry 2: decoding the encoding of a well-formed operation gives it back, with every operand at every value the
encoding admits, and leaves the bytes after it. -/
def Obligations.DecodeOfEncodeIsIdentity : Prop :=
  ∀ (i : Instr) (rest : List Byte), i.wellFormed = true → decode (encode i ++ rest) = .ok (i, rest)

/-- The other direction: bytes that decode are the encoding of what they decode to, which is well-formed, and the bytes left over. -/
def Obligations.EncodeOfDecodeIsIdentity : Prop :=
  ∀ (bs rest : List Byte) (i : Instr), decode bs = .ok (i, rest) → i.wellFormed = true ∧ encode i ++ rest = bs

/-- R60 (vector V-DEC-3, frame F3), R67: a few words written out bit by bit from the spec decode to what they stand for. -/
def Obligations.WrittenWordsDecode : Prop :=
  decodeTableWord 104 0b10101001001000110000001110101000101010101010111100000000000000000000000000000000000000001101011001100100 =
    some (.frame13 { id := 0x123, r := false, e := false, rsvd := 0, dlc := 3, p0 := 0xA8, p1 := 0xAA, p2 := 0xAF
                     p3 := 0, p4 := 0, p5 := 0, p6 := 0, p7 := 0, crcLo := 0xD6, crcHi := 0x64 }) ∧
  decodeTableWord 8 0b0000 = some .reset ∧
  decodeTableWord 8 0b0001 = some .start ∧
  decodeTableWord 8 0b0010 = some .stop ∧
  decodeTableWord 8 0b1011 = some .syncValidate ∧
  decodeTableWord 8 0b1101 = some .syncDeliver
end

