-- ==== Sys2Proof/Laws/Frame.lean ====
section
/-! SUPPORT. Laws of frames as byte sequences, of the two bytes of a 16-bit number, and of the window. -/

namespace Sys2Proof

@[simp] theorem Frame.bytes_length (w : Frame) : w.bytes.length = 13 := rfl

@[simp] theorem Frame.span_length (w : Frame) : w.span.length = 11 := rfl

theorem Frame.bytes_eq_span (w : Frame) : w.bytes = w.span ++ [w.b11, w.b12] := rfl

@[simp] theorem frameOfBytes_bytes (w : Frame) : frameOfBytes w.bytes = some w := rfl

/-- A frame is determined by its bytes. -/
theorem Frame.bytes_injective {v w : Frame} (h : v.bytes = w.bytes) : v = w := by
  have := congrArg frameOfBytes h
  simpa using this

/-- Exactly 13 bytes make a frame (R103). -/
theorem frameOfBytes_of_length {l : List Byte} (h : l.length = 13) : ∃ w, frameOfBytes l = some w ∧ w.bytes = l := by
  match l, h with
  | [b0, b1, b2, b3, b4, b5, b6, b7, b8, b9, b10, b11, b12], _ => exact ⟨_, rfl, rfl⟩

theorem frameOfBytes_eq_some {l : List Byte} {w : Frame} : frameOfBytes l = some w ↔ l = w.bytes := by
  constructor
  · intro h
    unfold frameOfBytes at h
    split at h
    · cases h; rfl
    · cases h
  · rintro rfl
    rfl

theorem frameOfBytes_eq_none {l : List Byte} : frameOfBytes l = none ↔ l.length ≠ 13 := by
  constructor
  · intro h hl
    obtain ⟨w, hw, _⟩ := frameOfBytes_of_length hl
    simp [hw] at h
  · intro h
    cases hf : frameOfBytes l with
    | none => rfl
    | some w => exact absurd (by rw [frameOfBytes_eq_some.mp hf]; rfl) h

/-- The number of two bit fields side by side. -/
theorem toNat_append_eq {m n : Nat} (x : BitVec m) (y : BitVec n) : (x ++ y).toNat = x.toNat * 2 ^ n + y.toNat := by
  rw [BitVec.toNat_append, Nat.shiftLeft_eq, Nat.mul_comm, ← Nat.two_pow_add_eq_or_of_lt y.isLt]

theorem lowByte_wordOfBytes (lo hi : Byte) : lowByte (wordOfBytes lo hi) = lo := by
  show BitVec.extractLsb' 0 8 (hi ++ lo : BitVec (8 + 8)) = lo
  apply BitVec.eq_of_getLsbD_eq
  intro i hi'
  rw [BitVec.getLsbD_extractLsb', BitVec.getLsbD_append]
  simp [hi']

theorem highByte_wordOfBytes (lo hi : Byte) : highByte (wordOfBytes lo hi) = hi := by
  show BitVec.extractLsb' 8 8 (hi ++ lo : BitVec (8 + 8)) = hi
  apply BitVec.eq_of_getLsbD_eq
  intro i hi'
  rw [BitVec.getLsbD_extractLsb', BitVec.getLsbD_append]
  simp [hi']

theorem wordOfBytes_low_high (c : Word) : wordOfBytes (lowByte c) (highByte c) = c := by
  show (BitVec.extractLsb' 8 8 c ++ BitVec.extractLsb' 0 8 c : BitVec (8 + 8)) = c
  apply BitVec.eq_of_getLsbD_eq
  intro i hi
  rw [BitVec.getLsbD_append, BitVec.getLsbD_extractLsb', BitVec.getLsbD_extractLsb']
  by_cases h : i < 8
  · simp [h]
  · have h8 : i - 8 < 8 := by omega
    have h9 : 8 + (i - 8) = i := by omega
    simp [h, h8, h9]

namespace Machine

theorem State.window_eq_some {s : State} {w : Frame} : s.window = some w ↔ s.buf = w.bytes := frameOfBytes_eq_some

theorem State.window_eq_none {s : State} : s.window = none ↔ s.len ≠ 13 := frameOfBytes_eq_none

theorem State.window_of_len {s : State} (h : s.len = 13) : ∃ w, s.window = some w ∧ w.bytes = s.buf :=
  frameOfBytes_of_length h

theorem State.len_of_window {s : State} {w : Frame} (h : s.window = some w) : s.len = 13 := by
  rw [State.len, State.window_eq_some.mp h]
  rfl

theorem frameValid_iff (p : Params) (w : Frame) : frameValid p w = true ↔ markerOk w = true ∧ crcOk p w = true := by
  simp [frameValid]

theorem crcOk_iff (p : Params) (w : Frame) :
    crcOk p w = true ↔ w.b11 = lowByte (crc16 p w.span) ∧ w.b12 = highByte (crc16 p w.span) := by
  simp [crcOk]

end Machine

end Sys2Proof
end

