-- ==== Sys2Proof/Laws/Codec.lean ====
section
/-! SUPPORT. Laws of the Frame Codec: what setting a frame's CRC bytes keeps and gives, and the padded payload. -/

namespace Sys2Proof.Machine

@[simp] theorem sealFrame_span (p : Params) (f : Frame) : (sealFrame p f).span = f.span := rfl
@[simp] theorem sealFrame_b0 (p : Params) (f : Frame) : (sealFrame p f).b0 = f.b0 := rfl
@[simp] theorem sealFrame_b1 (p : Params) (f : Frame) : (sealFrame p f).b1 = f.b1 := rfl
@[simp] theorem sealFrame_b2 (p : Params) (f : Frame) : (sealFrame p f).b2 = f.b2 := rfl
@[simp] theorem sealFrame_b11 (p : Params) (f : Frame) : (sealFrame p f).b11 = lowByte (crc16 p f.span) := rfl
@[simp] theorem sealFrame_b12 (p : Params) (f : Frame) : (sealFrame p f).b12 = highByte (crc16 p f.span) := rfl
@[simp] theorem payloadField_sealFrame (p : Params) (f : Frame) : payloadField (sealFrame p f) = payloadField f := rfl

@[simp] theorem markerOk_sealFrame (p : Params) (f : Frame) : markerOk (sealFrame p f) = markerOk f := rfl

@[simp] theorem crcOk_sealFrame (p : Params) (f : Frame) : crcOk p (sealFrame p f) = true := by simp [crcOk]

theorem encodeMessage_of_le (p : Params) {identifier : Word} (h : identifier ≤ 0x7FF) (r e : Bool) (payload : List Byte) :
    encodeMessage p identifier r e payload =
      .ok (sealFrame p (headFields identifier r e payload).toFrame, truncatedFlag payload) := by
  have : ¬ identifier > Config.idMax := by simpa [Config.idMax] using BitVec.not_lt.mpr h
  simp [encodeMessage, this]

theorem encodeMessage_of_lt (p : Params) {identifier : Word} (h : 0x7FF < identifier) (r e : Bool) (payload : List Byte) :
    encodeMessage p identifier r e payload = .error (.invalidIdentifier identifier) := by
  have : identifier > Config.idMax := h
  simp [encodeMessage, this]

theorem decodeMessage_of_valid {p : Params} {w : Frame} (h : frameValid p w = true) :
    decodeMessage p w = .ok (messageOf w) := by
  obtain ⟨h1, h2⟩ := (frameValid_iff _ _).mp h
  simp [decodeMessage, h1, h2]

/-- The eight payload bytes of an encoded frame: the payload, then zeros, eight bytes of it (R100). -/
theorem paddedBytes_eq (payload : List Byte) :
    [paddedByte payload 0, paddedByte payload 1, paddedByte payload 2, paddedByte payload 3, paddedByte payload 4,
      paddedByte payload 5, paddedByte payload 6, paddedByte payload 7] =
      (payload ++ [0, 0, 0, 0, 0, 0, 0, 0]).take 8 := by
  unfold paddedByte
  rcases payload with _ | ⟨a0, _ | ⟨a1, _ | ⟨a2, _ | ⟨a3, _ | ⟨a4, _ | ⟨a5, _ | ⟨a6, _ | ⟨a7, t⟩⟩⟩⟩⟩⟩⟩⟩ <;> rfl

end Sys2Proof.Machine
end

