-- ==== Sys2Proof/Laws/Crc.lean ====
section
/-! SUPPORT. Laws of the CRC Engine: a round, an update and a fold are linear over xor and injective. -/

namespace Sys2Proof.Machine

theorem crcRound_getLsbD (x : Word) (i : Nat) :
    (crcRound x).getLsbD i = (x.getLsbD (i + 1) ^^ (x.getLsbD 0 && Config.crcPolyR.getLsbD i)) := by
  unfold crcRound
  cases h : x.getLsbD 0 <;> simp [Nat.add_comm]

/-- A round is linear over xor (R88). -/
theorem crcRound_xor (x y : Word) : crcRound (x ^^^ y) = crcRound x ^^^ crcRound y := by
  apply BitVec.eq_of_getLsbD_eq
  intro i _
  simp only [crcRound_getLsbD, BitVec.getLsbD_xor]
  cases x.getLsbD (i + 1) <;> cases y.getLsbD (i + 1) <;> cases x.getLsbD 0 <;> cases y.getLsbD 0 <;>
    cases Config.crcPolyR.getLsbD i <;> rfl

theorem crcRounds_xor (n : Nat) (x y : Word) : crcRounds n (x ^^^ y) = crcRounds n x ^^^ crcRounds n y := by
  induction n generalizing x y with
  | zero => rfl
  | succ n ih => simp only [crcRounds, crcRound_xor, ih]

/-- A round sends only 0 to 0: bit 15 of the result is bit 0 of the argument. -/
theorem crcRound_eq_zero (x : Word) (h : crcRound x = 0) : x = 0 := by
  have hb (i : Nat) := crcRound_getLsbD x i
  rw [h] at hb
  have h0 : x.getLsbD 0 = false := by
    have := hb 15
    simpa [Config.crcPolyR] using this.symm
  apply BitVec.eq_of_getLsbD_eq
  intro i _
  cases i with
  | zero => simpa using h0
  | succ i =>
    have := hb i
    rw [h0] at this
    simpa using this.symm

theorem crcRounds_eq_zero (n : Nat) (x : Word) (h : crcRounds n x = 0) : x = 0 := by
  induction n generalizing x with
  | zero => exact h
  | succ n ih => exact crcRound_eq_zero x (ih _ h)

theorem crcRounds_zero (n : Nat) : crcRounds n 0 = 0 := by
  induction n with
  | zero => rfl
  | succ n ih => exact ih

/-- Rounds that shift out zeros only shift. -/
theorem crcRounds_shift (n : Nat) (x : Word) (h : ∀ i < n, x.getLsbD i = false) : crcRounds n x = x >>> n := by
  induction n generalizing x with
  | zero => simp [crcRounds]
  | succ n ih =>
    have h0 : crcRound x = x >>> 1 := by
      have hb := h 0 (by omega)
      unfold crcRound
      rw [hb]
      rfl
    rw [crcRounds, h0, ih]
    · rw [← BitVec.shiftRight_add, Nat.add_comm]
    · intro i hi
      simpa [Nat.add_comm] using h (i + 1) (by omega)

/-- An update is linear over xor in both operands together (R88, R89). -/
theorem crcUpdate_xor (c d : Word) (a b : Byte) :
    crcUpdate (c ^^^ d) (a ^^^ b) = crcUpdate c a ^^^ crcUpdate d b := by
  unfold crcUpdate
  rw [← crcRounds_xor]
  congr 1
  apply BitVec.eq_of_getLsbD_eq
  intro i _
  simp only [BitVec.getLsbD_xor, BitVec.getLsbD_setWidth]
  cases c.getLsbD i <;> cases d.getLsbD i <;> cases a.getLsbD i <;> cases b.getLsbD i <;> simp

/-- Updates of different registers by the same byte differ. -/
theorem crcUpdate_left_injective (c d : Word) (b : Byte) (h : crcUpdate c b = crcUpdate d b) : c = d := by
  have h0 : crcRounds 8 ((c ^^^ b.setWidth 16) ^^^ (d ^^^ b.setWidth 16)) = 0 := by
    rw [crcRounds_xor]
    unfold crcUpdate at h
    rw [h, BitVec.xor_self]
    rfl
  have h1 := crcRounds_eq_zero _ _ h0
  have h2 : (c ^^^ b.setWidth 16) ^^^ (d ^^^ b.setWidth 16) = c ^^^ d := by
    rw [BitVec.xor_comm d, BitVec.xor_assoc, ← BitVec.xor_assoc (b.setWidth 16), BitVec.xor_self, BitVec.zero_xor]
  rw [h2] at h1
  exact BitVec.xor_eq_zero_iff.mp h1

/-- Updates of the same register by different bytes differ. -/
theorem crcUpdate_right_injective (c : Word) (a b : Byte) (h : crcUpdate c a = crcUpdate c b) : a = b := by
  have h0 : crcRounds 8 ((c ^^^ a.setWidth 16) ^^^ (c ^^^ b.setWidth 16)) = 0 := by
    rw [crcRounds_xor]
    unfold crcUpdate at h
    rw [h, BitVec.xor_self]
    rfl
  have h1 := BitVec.xor_eq_zero_iff.mp (crcRounds_eq_zero _ _ h0)
  have h2 : a.setWidth 16 = b.setWidth 16 := by
    have := congrArg (c ^^^ ·) h1
    simpa [← BitVec.xor_assoc] using this
  apply BitVec.eq_of_getLsbD_eq
  intro i hi
  have := congrArg (fun v => BitVec.getLsbD v i) h2
  simpa [BitVec.getLsbD_setWidth, Nat.lt_of_lt_of_le hi (by omega : 8 ≤ 16)] using this

theorem crcFold_append (init : Word) (s t : List Byte) : crcFold init (s ++ t) = crcFold (crcFold init s) t :=
  List.foldl_append

theorem crcFold_cons (init : Word) (b : Byte) (s : List Byte) : crcFold init (b :: s) = crcFold (crcUpdate init b) s :=
  rfl

/-- A fold is injective in the register it starts from. -/
theorem crcFold_injective (c d : Word) (s : List Byte) (h : crcFold c s = crcFold d s) : c = d := by
  induction s generalizing c d with
  | nil => exact h
  | cons b s ih => exact crcUpdate_left_injective c d b (ih _ _ h)

/-- A fold is linear over xor (R89). -/
theorem crcFold_xor (c d : Word) (s t : List Byte) (h : s.length = t.length) :
    crcFold (c ^^^ d) (List.zipWith (· ^^^ ·) s t) = crcFold c s ^^^ crcFold d t := by
  induction s generalizing c d t with
  | nil =>
    cases t with
    | nil => rfl
    | cons => simp at h
  | cons a s ih =>
    cases t with
    | nil => simp at h
    | cons b t =>
      simp only [List.zipWith_cons_cons, crcFold_cons, crcUpdate_xor]
      exact ih _ _ _ (by simpa using h)

/-- `CRC_XOROUT` is 0, so the CRC is the fold (R85). -/
theorem crc16_eq_fold (p : Params) (s : List Byte) : crc16 p s = crcFold (crcInitValue p.crcInit) s := by
  simp [crc16, Config.crcXorOut]

end Sys2Proof.Machine
end

