-- ==== Sys2Proof/Laws/Decode.lean ====
section
/-! SUPPORT. One pair of lemmas per operand form: what was encoded is taken back, and what is taken was encoded. -/

namespace Sys2Proof

theorem takeFrame_bytes (w : Frame) (rest : List Byte) : takeFrame (w.bytes ++ rest) = .ok (w, rest) := rfl

theorem takeFrame_ok {bs rest : List Byte} {w : Frame} (h : takeFrame bs = .ok (w, rest)) : bs = w.bytes ++ rest := by
  unfold takeFrame at h
  split at h
  · cases h; rfl
  · cases h

theorem takeByte_ok {bs rest : List Byte} {b : Byte} (h : takeByte bs = .ok (b, rest)) : bs = b :: rest := by
  cases bs with
  | nil => cases h
  | cons c bs => cases h; rfl

theorem takeWord_bytes (c : Word) (rest : List Byte) :
    takeWord (lowByte c :: highByte c :: rest) = .ok (c, rest) := by
  simp [takeWord, wordOfBytes_low_high]

theorem takeWord_ok {bs rest : List Byte} {c : Word} (h : takeWord bs = .ok (c, rest)) :
    bs = lowByte c :: highByte c :: rest := by
  unfold takeWord at h
  split at h
  · cases h
    rw [lowByte_wordOfBytes, highByte_wordOfBytes]
  · cases h

theorem takeFlags_byte (r e : Bool) (rest : List Byte) : takeFlags (flagsByte r e :: rest) = .ok ((r, e), rest) := by
  cases r <;> cases e <;> rfl

theorem takeFlags_ok {bs rest : List Byte} {r e : Bool} (h : takeFlags bs = .ok ((r, e), rest)) :
    bs = flagsByte r e :: rest := by
  unfold takeFlags at h
  split at h
  · cases h
  · rename_i b bs
    split at h
    · rename_i hb; cases h; rw [hb]; rfl
    · split at h
      · rename_i hb; cases h; rw [hb]; rfl
      · split at h
        · rename_i hb; cases h; rw [hb]; rfl
        · split at h
          · rename_i hb; cases h; rw [hb]; rfl
          · cases h

theorem takeChoice_zero {α : Type} (zero one : α) (rest : List Byte) :
    takeChoice zero one (0 :: rest) = .ok (zero, rest) := rfl

theorem takeChoice_one {α : Type} (zero one : α) (rest : List Byte) :
    takeChoice zero one (1 :: rest) = .ok (one, rest) := rfl

theorem takeChoice_ok {α : Type} {zero one a : α} {bs rest : List Byte}
    (h : takeChoice zero one bs = .ok (a, rest)) : (a = zero ∧ bs = 0 :: rest) ∨ (a = one ∧ bs = 1 :: rest) := by
  unfold takeChoice at h
  split at h
  · cases h
  · split at h
    · rename_i hb; cases h; exact .inl ⟨rfl, by rw [hb]⟩
    · split at h
      · rename_i hb; cases h; exact .inr ⟨rfl, by rw [hb]⟩
      · cases h

theorem takeReadAnswer_byte (a : ReadAnswer) (rest : List Byte) (h : a.wellFormed = true) :
    takeReadAnswer (a.byte :: rest) = .ok (a, rest) := by
  cases a with
  | err => rfl
  | rx k =>
    have hk : k ≤ 13 := of_decide_eq_true h
    have hm : k % 256 = k := Nat.mod_eq_of_lt (by omega)
    simp [takeReadAnswer, ReadAnswer.byte, hm, Config.frameLen, hk]

theorem takeReadAnswer_ok {a : ReadAnswer} {bs rest : List Byte} (h : takeReadAnswer bs = .ok (a, rest)) :
    a.wellFormed = true ∧ bs = a.byte :: rest := by
  unfold takeReadAnswer at h
  split at h
  · cases h
  · split at h
    · rename_i hb
      cases h
      exact ⟨by simpa [ReadAnswer.wellFormed] using hb, by simp [ReadAnswer.byte]⟩
    · split at h
      · rename_i hb; cases h; exact ⟨rfl, by rw [hb]; rfl⟩
      · cases h

theorem takeSpan_zero (rest : List Byte) : takeSpan (0 :: rest) = .ok ([], rest) := by
  unfold takeSpan
  rfl

theorem takeSpan_one (b : Byte) (rest : List Byte) : takeSpan (1 :: b :: rest) =
    match takeSpan rest with
    | .ok (s, tail) => .ok (b :: s, tail)
    | .error why => .error why := by
  rw [takeSpan]
  rfl

theorem takeSpan_encodeSpan (s rest : List Byte) : takeSpan (encodeSpan s ++ rest) = .ok (s, rest) := by
  induction s with
  | nil => exact takeSpan_zero rest
  | cons b s ih =>
    show takeSpan (1 :: b :: (encodeSpan s ++ rest)) = _
    rw [takeSpan_one, ih]

theorem takeSpan_ok {bs s rest : List Byte} (h : takeSpan bs = .ok (s, rest)) : bs = encodeSpan s ++ rest := by
  induction hn : bs.length using Nat.strongRecOn generalizing bs s rest with
  | ind n ih =>
    match bs with
    | [] => unfold takeSpan at h; cases h
    | t :: tail =>
      by_cases h0 : t = 0
      · subst h0
        rw [takeSpan_zero] at h
        cases h
        rfl
      · by_cases h1 : t = 1
        · subst h1
          match tail with
          | [] => unfold takeSpan at h; cases h
          | b :: tail =>
            rw [takeSpan_one] at h
            cases hr : takeSpan tail with
            | error why => rw [hr] at h; cases h
            | ok v =>
              rw [hr] at h
              cases h
              rw [ih tail.length (by simp at hn; omega) hr rfl]
              rfl
        · unfold takeSpan at h
          rw [if_neg h0, if_neg h1] at h
          cases h

/-! ## The decoder by its first byte -/

theorem decode_of_marker {b : Byte} (h : markerByte b = true) (rest : List Byte) : decode (b :: rest) =
    match takeFrame (b :: rest) with
    | .ok (w, tail) => .ok (.frame13 w.fields, tail)
    | .error why => .error (.operands b why) := by
  cases hf : takeFrame (b :: rest) <;> simp [decode, h, hf]

theorem decode_of_label {b : Byte} (h : markerByte b = false) (hb : b.toNat < 16) (rest : List Byte) :
    decode (b :: rest) =
      match decodeOperands b.toNat rest with
      | .ok (i, tail) => .ok (i, tail)
      | .error why => .error (.operands b why) := by
  cases hf : decodeOperands b.toNat rest <;> simp [decode, h, hb, hf]

theorem decode_of_unknown {b : Byte} (h : markerByte b = false) (hb : ¬ b.toNat < 16) (rest : List Byte) :
    decode (b :: rest) = .error (.unknownLabel b) := by
  simp only [decode, h, hb, Bool.false_eq_true, if_false]

/-- What decodes is a whole wire frame with the marker, or a label with its operands. -/
theorem decode_ok {bs rest : List Byte} {i : Instr} (h : decode bs = .ok (i, rest)) :
    (∃ w : Frame, markerByte w.b0 = true ∧ bs = w.bytes ++ rest ∧ i = .frame13 w.fields) ∨
    (∃ b tail, markerByte b = false ∧ b.toNat < 16 ∧ bs = b :: tail ∧ decodeOperands b.toNat tail = .ok (i, rest)) := by
  cases bs with
  | nil => cases h
  | cons b tail =>
    cases hm : markerByte b with
    | true =>
      rw [decode_of_marker hm] at h
      rcases h1 : takeFrame (b :: tail) with why | ⟨w, t⟩
      · rw [h1] at h; cases h
      · rw [h1] at h
        cases h
        have h2 := takeFrame_ok h1
        have hb : w.b0 = b := by
          have := congrArg List.head? h2
          simpa [Frame.bytes] using this.symm
        exact .inl ⟨w, by rw [hb]; exact hm, h2, rfl⟩
    | false =>
      by_cases hb : b.toNat < 16
      · rw [decode_of_label hm hb] at h
        rcases h1 : decodeOperands b.toNat tail with why | ⟨j, t⟩
        · rw [h1] at h; cases h
        · rw [h1] at h
          cases h
          exact .inr ⟨b, tail, hm, hb, rfl, h1⟩
      · rw [decode_of_unknown hm hb] at h
        cases h

end Sys2Proof
end

