-- ==== Sys2Proof/Laws/State.lean ====
section
/-! SUPPORT. One lemma per field and per update of the state: what the field is afterwards. -/

namespace Sys2Proof.Machine

variable (s : State)

/-! ### done -/

@[simp] theorem State.done_buf (r : OpResult) : (s.done r).buf = s.buf := rfl
@[simp] theorem State.done_resyncCnt (r : OpResult) : (s.done r).resyncCnt = s.resyncCnt := rfl
@[simp] theorem State.done_run (r : OpResult) : (s.done r).run = s.run := rfl
@[simp] theorem State.done_phase (r : OpResult) : (s.done r).phase = s.phase := rfl
@[simp] theorem State.done_tclosed (r : OpResult) : (s.done r).tclosed = s.tclosed := rfl
@[simp] theorem State.done_q (r : OpResult) : (s.done r).q = s.q := rfl
@[simp] theorem State.done_params (r : OpResult) : (s.done r).params = s.params := rfl
@[simp] theorem State.done_rx (r : OpResult) : (s.done r).rx = s.rx := rfl
@[simp] theorem State.done_tx (r : OpResult) : (s.done r).tx = s.tx := rfl
@[simp] theorem State.done_pendingPops (r : OpResult) : (s.done r).pendingPops = s.pendingPops := rfl
@[simp] theorem State.done_outcome (r : OpResult) : (s.done r).outcome = .completed r := rfl
@[simp] theorem State.done_emitted (r : OpResult) : (s.done r).emitted = s.emitted := rfl
@[simp] theorem State.done_sink (r : OpResult) : (s.done r).sink = s.sink := rfl
@[simp] theorem State.done_draws (r : OpResult) : (s.done r).draws = s.draws := rfl
@[simp] theorem State.done_script (r : OpResult) : (s.done r).script = s.script := rfl
@[simp] theorem State.done_enclosed (r : OpResult) : (s.done r).enclosed = s.enclosed := rfl

/-! ### block -/

@[simp] theorem State.block_buf (on : BlockedOn) : (s.block on).buf = s.buf := rfl
@[simp] theorem State.block_resyncCnt (on : BlockedOn) : (s.block on).resyncCnt = s.resyncCnt := rfl
@[simp] theorem State.block_run (on : BlockedOn) : (s.block on).run = s.run := rfl
@[simp] theorem State.block_phase (on : BlockedOn) : (s.block on).phase = s.phase := rfl
@[simp] theorem State.block_tclosed (on : BlockedOn) : (s.block on).tclosed = s.tclosed := rfl
@[simp] theorem State.block_q (on : BlockedOn) : (s.block on).q = s.q := rfl
@[simp] theorem State.block_params (on : BlockedOn) : (s.block on).params = s.params := rfl
@[simp] theorem State.block_rx (on : BlockedOn) : (s.block on).rx = s.rx := rfl
@[simp] theorem State.block_tx (on : BlockedOn) : (s.block on).tx = s.tx := rfl
@[simp] theorem State.block_pendingPops (on : BlockedOn) : (s.block on).pendingPops = s.pendingPops := rfl
@[simp] theorem State.block_outcome (on : BlockedOn) : (s.block on).outcome = .blocked on := rfl
@[simp] theorem State.block_emitted (on : BlockedOn) : (s.block on).emitted = s.emitted := rfl
@[simp] theorem State.block_sink (on : BlockedOn) : (s.block on).sink = s.sink := rfl
@[simp] theorem State.block_draws (on : BlockedOn) : (s.block on).draws = s.draws := rfl
@[simp] theorem State.block_script (on : BlockedOn) : (s.block on).script = s.script := rfl
@[simp] theorem State.block_enclosed (on : BlockedOn) : (s.block on).enclosed = s.enclosed := rfl

/-! ### raiseError -/

@[simp] theorem State.raiseError_buf (why : Raised) : (s.raiseError why).buf = s.buf := rfl
@[simp] theorem State.raiseError_resyncCnt (why : Raised) : (s.raiseError why).resyncCnt = s.resyncCnt := rfl
@[simp] theorem State.raiseError_run (why : Raised) : (s.raiseError why).run = s.run := rfl
@[simp] theorem State.raiseError_phase (why : Raised) : (s.raiseError why).phase = s.phase := rfl
@[simp] theorem State.raiseError_tclosed (why : Raised) : (s.raiseError why).tclosed = s.tclosed := rfl
@[simp] theorem State.raiseError_q (why : Raised) : (s.raiseError why).q = s.q := rfl
@[simp] theorem State.raiseError_params (why : Raised) : (s.raiseError why).params = s.params := rfl
@[simp] theorem State.raiseError_rx (why : Raised) : (s.raiseError why).rx = s.rx := rfl
@[simp] theorem State.raiseError_tx (why : Raised) : (s.raiseError why).tx = s.tx := rfl
@[simp] theorem State.raiseError_pendingPops (why : Raised) : (s.raiseError why).pendingPops = s.pendingPops := rfl
@[simp] theorem State.raiseError_outcome (why : Raised) : (s.raiseError why).outcome = .completed (.error why) := rfl
@[simp] theorem State.raiseError_emitted (why : Raised) : (s.raiseError why).emitted = s.emitted := rfl
@[simp] theorem State.raiseError_sink (why : Raised) : (s.raiseError why).sink = s.sink := rfl
@[simp] theorem State.raiseError_draws (why : Raised) : (s.raiseError why).draws = s.draws := rfl
@[simp] theorem State.raiseError_script (why : Raised) : (s.raiseError why).script = s.script := rfl
@[simp] theorem State.raiseError_enclosed (why : Raised) : (s.raiseError why).enclosed = s.enclosed := rfl

/-! ### drawn -/

@[simp] theorem State.drawn_buf : (s.drawn).buf = s.buf := rfl
@[simp] theorem State.drawn_resyncCnt : (s.drawn).resyncCnt = s.resyncCnt := rfl
@[simp] theorem State.drawn_run : (s.drawn).run = s.run := rfl
@[simp] theorem State.drawn_phase : (s.drawn).phase = s.phase := rfl
@[simp] theorem State.drawn_tclosed : (s.drawn).tclosed = s.tclosed := rfl
@[simp] theorem State.drawn_q : (s.drawn).q = s.q := rfl
@[simp] theorem State.drawn_params : (s.drawn).params = s.params := rfl
@[simp] theorem State.drawn_rx : (s.drawn).rx = s.rx := rfl
@[simp] theorem State.drawn_tx : (s.drawn).tx = s.tx := rfl
@[simp] theorem State.drawn_pendingPops : (s.drawn).pendingPops = s.pendingPops := rfl
@[simp] theorem State.drawn_outcome : (s.drawn).outcome = s.outcome := rfl
@[simp] theorem State.drawn_emitted : (s.drawn).emitted = s.emitted := rfl
@[simp] theorem State.drawn_sink : (s.drawn).sink = s.sink := rfl
@[simp] theorem State.drawn_draws : (s.drawn).draws = s.draws + 1 := rfl
@[simp] theorem State.drawn_script : (s.drawn).script = s.script := rfl
@[simp] theorem State.drawn_enclosed : (s.drawn).enclosed = s.enclosed := rfl

/-! ### setPhase -/

@[simp] theorem State.setPhase_buf (p : Phase) : (s.setPhase p).buf = s.buf := rfl
@[simp] theorem State.setPhase_resyncCnt (p : Phase) : (s.setPhase p).resyncCnt = s.resyncCnt := rfl
@[simp] theorem State.setPhase_run (p : Phase) : (s.setPhase p).run = s.run := rfl
@[simp] theorem State.setPhase_phase (p : Phase) : (s.setPhase p).phase = p := rfl
@[simp] theorem State.setPhase_tclosed (p : Phase) : (s.setPhase p).tclosed = s.tclosed := rfl
@[simp] theorem State.setPhase_q (p : Phase) : (s.setPhase p).q = s.q := rfl
@[simp] theorem State.setPhase_params (p : Phase) : (s.setPhase p).params = s.params := rfl
@[simp] theorem State.setPhase_rx (p : Phase) : (s.setPhase p).rx = s.rx := rfl
@[simp] theorem State.setPhase_tx (p : Phase) : (s.setPhase p).tx = s.tx := rfl
@[simp] theorem State.setPhase_pendingPops (p : Phase) : (s.setPhase p).pendingPops = s.pendingPops := rfl
@[simp] theorem State.setPhase_outcome (p : Phase) : (s.setPhase p).outcome = s.outcome := rfl
@[simp] theorem State.setPhase_emitted (p : Phase) : (s.setPhase p).emitted = s.emitted := rfl
@[simp] theorem State.setPhase_sink (p : Phase) : (s.setPhase p).sink = s.sink := rfl
@[simp] theorem State.setPhase_draws (p : Phase) : (s.setPhase p).draws = s.draws := rfl
@[simp] theorem State.setPhase_script (p : Phase) : (s.setPhase p).script = s.script := rfl
@[simp] theorem State.setPhase_enclosed (p : Phase) : (s.setPhase p).enclosed = s.enclosed := rfl

/-! ### setRun -/

@[simp] theorem State.setRun_buf (v : Bool) : (s.setRun v).buf = s.buf := rfl
@[simp] theorem State.setRun_resyncCnt (v : Bool) : (s.setRun v).resyncCnt = s.resyncCnt := rfl
@[simp] theorem State.setRun_run (v : Bool) : (s.setRun v).run = v := rfl
@[simp] theorem State.setRun_phase (v : Bool) : (s.setRun v).phase = s.phase := rfl
@[simp] theorem State.setRun_tclosed (v : Bool) : (s.setRun v).tclosed = s.tclosed := rfl
@[simp] theorem State.setRun_q (v : Bool) : (s.setRun v).q = s.q := rfl
@[simp] theorem State.setRun_params (v : Bool) : (s.setRun v).params = s.params := rfl
@[simp] theorem State.setRun_rx (v : Bool) : (s.setRun v).rx = s.rx := rfl
@[simp] theorem State.setRun_tx (v : Bool) : (s.setRun v).tx = s.tx := rfl
@[simp] theorem State.setRun_pendingPops (v : Bool) : (s.setRun v).pendingPops = s.pendingPops := rfl
@[simp] theorem State.setRun_outcome (v : Bool) : (s.setRun v).outcome = s.outcome := rfl
@[simp] theorem State.setRun_emitted (v : Bool) : (s.setRun v).emitted = s.emitted := rfl
@[simp] theorem State.setRun_sink (v : Bool) : (s.setRun v).sink = s.sink := rfl
@[simp] theorem State.setRun_draws (v : Bool) : (s.setRun v).draws = s.draws := rfl
@[simp] theorem State.setRun_script (v : Bool) : (s.setRun v).script = s.script := rfl
@[simp] theorem State.setRun_enclosed (v : Bool) : (s.setRun v).enclosed = s.enclosed := rfl

/-! ### latchClosed -/

@[simp] theorem State.latchClosed_buf : (s.latchClosed).buf = s.buf := rfl
@[simp] theorem State.latchClosed_resyncCnt : (s.latchClosed).resyncCnt = s.resyncCnt := rfl
@[simp] theorem State.latchClosed_run : (s.latchClosed).run = s.run := rfl
@[simp] theorem State.latchClosed_phase : (s.latchClosed).phase = s.phase := rfl
@[simp] theorem State.latchClosed_tclosed : (s.latchClosed).tclosed = true := rfl
@[simp] theorem State.latchClosed_q : (s.latchClosed).q = s.q := rfl
@[simp] theorem State.latchClosed_params : (s.latchClosed).params = s.params := rfl
@[simp] theorem State.latchClosed_rx : (s.latchClosed).rx = s.rx := rfl
@[simp] theorem State.latchClosed_tx : (s.latchClosed).tx = s.tx := rfl
@[simp] theorem State.latchClosed_pendingPops : (s.latchClosed).pendingPops = s.pendingPops := rfl
@[simp] theorem State.latchClosed_outcome : (s.latchClosed).outcome = s.outcome := rfl
@[simp] theorem State.latchClosed_emitted : (s.latchClosed).emitted = s.emitted := rfl
@[simp] theorem State.latchClosed_sink : (s.latchClosed).sink = s.sink := rfl
@[simp] theorem State.latchClosed_draws : (s.latchClosed).draws = s.draws := rfl
@[simp] theorem State.latchClosed_script : (s.latchClosed).script = s.script := rfl
@[simp] theorem State.latchClosed_enclosed : (s.latchClosed).enclosed = s.enclosed := rfl

/-! ### append -/

@[simp] theorem State.append_buf (k : Nat) : (s.append k).buf = s.buf ++ s.rx.take k := rfl
@[simp] theorem State.append_resyncCnt (k : Nat) : (s.append k).resyncCnt = s.resyncCnt := rfl
@[simp] theorem State.append_run (k : Nat) : (s.append k).run = s.run := rfl
@[simp] theorem State.append_phase (k : Nat) : (s.append k).phase = s.phase := rfl
@[simp] theorem State.append_tclosed (k : Nat) : (s.append k).tclosed = s.tclosed := rfl
@[simp] theorem State.append_q (k : Nat) : (s.append k).q = s.q := rfl
@[simp] theorem State.append_params (k : Nat) : (s.append k).params = s.params := rfl
@[simp] theorem State.append_rx (k : Nat) : (s.append k).rx = s.rx.drop k := rfl
@[simp] theorem State.append_tx (k : Nat) : (s.append k).tx = s.tx := rfl
@[simp] theorem State.append_pendingPops (k : Nat) : (s.append k).pendingPops = s.pendingPops := rfl
@[simp] theorem State.append_outcome (k : Nat) : (s.append k).outcome = s.outcome := rfl
@[simp] theorem State.append_emitted (k : Nat) : (s.append k).emitted = s.emitted := rfl
@[simp] theorem State.append_sink (k : Nat) : (s.append k).sink = s.sink := rfl
@[simp] theorem State.append_draws (k : Nat) : (s.append k).draws = s.draws := rfl
@[simp] theorem State.append_script (k : Nat) : (s.append k).script = s.script := rfl
@[simp] theorem State.append_enclosed (k : Nat) : (s.append k).enclosed = s.enclosed := rfl

/-! ### fill -/

@[simp] theorem State.fill_buf (k : Nat) : (s.fill k).buf = s.buf ++ s.rx.take k := rfl
@[simp] theorem State.fill_resyncCnt (k : Nat) : (s.fill k).resyncCnt = s.resyncCnt := rfl
@[simp] theorem State.fill_run (k : Nat) : (s.fill k).run = s.run := rfl
@[simp] theorem State.fill_phase (k : Nat) : (s.fill k).phase = if (s.append k).len = Config.frameLen then .validate else .check := rfl
@[simp] theorem State.fill_tclosed (k : Nat) : (s.fill k).tclosed = s.tclosed := rfl
@[simp] theorem State.fill_q (k : Nat) : (s.fill k).q = s.q := rfl
@[simp] theorem State.fill_params (k : Nat) : (s.fill k).params = s.params := rfl
@[simp] theorem State.fill_rx (k : Nat) : (s.fill k).rx = s.rx.drop k := rfl
@[simp] theorem State.fill_tx (k : Nat) : (s.fill k).tx = s.tx := rfl
@[simp] theorem State.fill_pendingPops (k : Nat) : (s.fill k).pendingPops = s.pendingPops := rfl
@[simp] theorem State.fill_outcome (k : Nat) : (s.fill k).outcome = s.outcome := rfl
@[simp] theorem State.fill_emitted (k : Nat) : (s.fill k).emitted = s.emitted := rfl
@[simp] theorem State.fill_sink (k : Nat) : (s.fill k).sink = s.sink := rfl
@[simp] theorem State.fill_draws (k : Nat) : (s.fill k).draws = s.draws := rfl
@[simp] theorem State.fill_script (k : Nat) : (s.fill k).script = s.script := rfl
@[simp] theorem State.fill_enclosed (k : Nat) : (s.fill k).enclosed = s.enclosed := rfl

/-! ### shed -/

@[simp] theorem State.shed_buf : (s.shed).buf = s.buf.drop 1 := rfl
@[simp] theorem State.shed_resyncCnt : (s.shed).resyncCnt = min (s.resyncCnt + 1) (resyncCap s.params) := rfl
@[simp] theorem State.shed_run : (s.shed).run = s.run := rfl
@[simp] theorem State.shed_phase : (s.shed).phase = .check := rfl
@[simp] theorem State.shed_tclosed : (s.shed).tclosed = s.tclosed := rfl
@[simp] theorem State.shed_q : (s.shed).q = s.q := rfl
@[simp] theorem State.shed_params : (s.shed).params = s.params := rfl
@[simp] theorem State.shed_rx : (s.shed).rx = s.rx := rfl
@[simp] theorem State.shed_tx : (s.shed).tx = s.tx := rfl
@[simp] theorem State.shed_pendingPops : (s.shed).pendingPops = s.pendingPops := rfl
@[simp] theorem State.shed_outcome : (s.shed).outcome = s.outcome := rfl
@[simp] theorem State.shed_emitted : (s.shed).emitted = s.emitted := rfl
@[simp] theorem State.shed_sink : (s.shed).sink = s.sink := rfl
@[simp] theorem State.shed_draws : (s.shed).draws = s.draws := rfl
@[simp] theorem State.shed_script : (s.shed).script = s.script := rfl
@[simp] theorem State.shed_enclosed : (s.shed).enclosed = s.enclosed := rfl

/-! ### emit -/

@[simp] theorem State.emit_buf (ev : DiagEvent) : (s.emit ev).buf = s.buf := rfl
@[simp] theorem State.emit_resyncCnt (ev : DiagEvent) : (s.emit ev).resyncCnt = s.resyncCnt := rfl
@[simp] theorem State.emit_run (ev : DiagEvent) : (s.emit ev).run = s.run := rfl
@[simp] theorem State.emit_phase (ev : DiagEvent) : (s.emit ev).phase = s.phase := rfl
@[simp] theorem State.emit_tclosed (ev : DiagEvent) : (s.emit ev).tclosed = s.tclosed := rfl
@[simp] theorem State.emit_q (ev : DiagEvent) : (s.emit ev).q = s.q := rfl
@[simp] theorem State.emit_params (ev : DiagEvent) : (s.emit ev).params = s.params := rfl
@[simp] theorem State.emit_rx (ev : DiagEvent) : (s.emit ev).rx = s.rx := rfl
@[simp] theorem State.emit_tx (ev : DiagEvent) : (s.emit ev).tx = s.tx := rfl
@[simp] theorem State.emit_pendingPops (ev : DiagEvent) : (s.emit ev).pendingPops = s.pendingPops := rfl
@[simp] theorem State.emit_outcome (ev : DiagEvent) : (s.emit ev).outcome = s.outcome := rfl
@[simp] theorem State.emit_emitted (ev : DiagEvent) : (s.emit ev).emitted = s.emitted ++ [ev] := rfl
@[simp] theorem State.emit_sink (ev : DiagEvent) : (s.emit ev).sink = if Config.sinkTakes s.draws then s.sink ++ [ev] else s.sink := rfl
@[simp] theorem State.emit_draws (ev : DiagEvent) : (s.emit ev).draws = s.draws + 1 := rfl
@[simp] theorem State.emit_script (ev : DiagEvent) : (s.emit ev).script = s.script := rfl
@[simp] theorem State.emit_enclosed (ev : DiagEvent) : (s.emit ev).enclosed = s.enclosed := rfl

/-! ### push -/

@[simp] theorem State.push_buf (f : Frame) : (s.push f).buf = s.buf := rfl
@[simp] theorem State.push_resyncCnt (f : Frame) : (s.push f).resyncCnt = s.resyncCnt := rfl
@[simp] theorem State.push_run (f : Frame) : (s.push f).run = s.run := rfl
@[simp] theorem State.push_phase (f : Frame) : (s.push f).phase = s.phase := rfl
@[simp] theorem State.push_tclosed (f : Frame) : (s.push f).tclosed = s.tclosed := rfl
@[simp] theorem State.push_q (f : Frame) : (s.push f).q = s.q ++ [f] := rfl
@[simp] theorem State.push_params (f : Frame) : (s.push f).params = s.params := rfl
@[simp] theorem State.push_rx (f : Frame) : (s.push f).rx = s.rx := rfl
@[simp] theorem State.push_tx (f : Frame) : (s.push f).tx = s.tx := rfl
@[simp] theorem State.push_pendingPops (f : Frame) : (s.push f).pendingPops = s.pendingPops := rfl
@[simp] theorem State.push_outcome (f : Frame) : (s.push f).outcome = s.outcome := rfl
@[simp] theorem State.push_emitted (f : Frame) : (s.push f).emitted = s.emitted := rfl
@[simp] theorem State.push_sink (f : Frame) : (s.push f).sink = s.sink := rfl
@[simp] theorem State.push_draws (f : Frame) : (s.push f).draws = s.draws := rfl
@[simp] theorem State.push_script (f : Frame) : (s.push f).script = s.script := rfl
@[simp] theorem State.push_enclosed (f : Frame) : (s.push f).enclosed = s.enclosed := rfl

/-! ### deliver -/

@[simp] theorem State.deliver_buf (w : Frame) : (s.deliver w).buf = [] := rfl
@[simp] theorem State.deliver_resyncCnt (w : Frame) : (s.deliver w).resyncCnt = 0 := rfl
@[simp] theorem State.deliver_run (w : Frame) : (s.deliver w).run = s.run := rfl
@[simp] theorem State.deliver_phase (w : Frame) : (s.deliver w).phase = .check := rfl
@[simp] theorem State.deliver_tclosed (w : Frame) : (s.deliver w).tclosed = s.tclosed := rfl
@[simp] theorem State.deliver_q (w : Frame) : (s.deliver w).q = s.q ++ [w] := rfl
@[simp] theorem State.deliver_params (w : Frame) : (s.deliver w).params = s.params := rfl
@[simp] theorem State.deliver_rx (w : Frame) : (s.deliver w).rx = s.rx := rfl
@[simp] theorem State.deliver_tx (w : Frame) : (s.deliver w).tx = s.tx := rfl
@[simp] theorem State.deliver_pendingPops (w : Frame) : (s.deliver w).pendingPops = s.pendingPops := rfl
@[simp] theorem State.deliver_outcome (w : Frame) : (s.deliver w).outcome = s.outcome := rfl
@[simp] theorem State.deliver_emitted (w : Frame) : (s.deliver w).emitted = s.emitted := rfl
@[simp] theorem State.deliver_sink (w : Frame) : (s.deliver w).sink = s.sink := rfl
@[simp] theorem State.deliver_draws (w : Frame) : (s.deliver w).draws = s.draws := rfl
@[simp] theorem State.deliver_script (w : Frame) : (s.deliver w).script = s.script := rfl
@[simp] theorem State.deliver_enclosed (w : Frame) : (s.deliver w).enclosed = s.enclosed := rfl

/-! ### keepCall -/

@[simp] theorem State.keepCall_buf (c : Caller) (call : PendingCall) : (s.keepCall c call).buf = s.buf := by cases c <;> rfl
@[simp] theorem State.keepCall_resyncCnt (c : Caller) (call : PendingCall) : (s.keepCall c call).resyncCnt = s.resyncCnt := by cases c <;> rfl
@[simp] theorem State.keepCall_run (c : Caller) (call : PendingCall) : (s.keepCall c call).run = s.run := by cases c <;> rfl
@[simp] theorem State.keepCall_phase (c : Caller) (call : PendingCall) : (s.keepCall c call).phase = s.phase := by cases c <;> rfl
@[simp] theorem State.keepCall_tclosed (c : Caller) (call : PendingCall) : (s.keepCall c call).tclosed = s.tclosed := by cases c <;> rfl
@[simp] theorem State.keepCall_q (c : Caller) (call : PendingCall) : (s.keepCall c call).q = s.q := by cases c <;> rfl
@[simp] theorem State.keepCall_params (c : Caller) (call : PendingCall) : (s.keepCall c call).params = s.params := by cases c <;> rfl
@[simp] theorem State.keepCall_rx (c : Caller) (call : PendingCall) : (s.keepCall c call).rx = s.rx := by cases c <;> rfl
@[simp] theorem State.keepCall_tx (c : Caller) (call : PendingCall) : (s.keepCall c call).tx = s.tx := by cases c <;> rfl
@[simp] theorem State.keepCall_outcome (c : Caller) (call : PendingCall) : (s.keepCall c call).outcome = s.outcome := by cases c <;> rfl
@[simp] theorem State.keepCall_emitted (c : Caller) (call : PendingCall) : (s.keepCall c call).emitted = s.emitted := by cases c <;> rfl
@[simp] theorem State.keepCall_sink (c : Caller) (call : PendingCall) : (s.keepCall c call).sink = s.sink := by cases c <;> rfl
@[simp] theorem State.keepCall_draws (c : Caller) (call : PendingCall) : (s.keepCall c call).draws = s.draws := by cases c <;> rfl
@[simp] theorem State.keepCall_script (c : Caller) (call : PendingCall) : (s.keepCall c call).script = s.script := by cases c <;> rfl
@[simp] theorem State.keepCall_enclosed (c : Caller) (call : PendingCall) : (s.keepCall c call).enclosed = s.enclosed := by cases c <;> rfl
@[simp] theorem State.keepCall_fresh_pendingPops (call : PendingCall) : (s.keepCall .fresh call).pendingPops = s.pendingPops ++ [call] := rfl
@[simp] theorem State.keepCall_pending_pendingPops (call : PendingCall) : (s.keepCall .pending call).pendingPops = s.pendingPops := rfl

/-! ### endCall -/

@[simp] theorem State.endCall_buf (c : Caller) (call : PendingCall) : (s.endCall c call).buf = s.buf := by cases c <;> rfl
@[simp] theorem State.endCall_resyncCnt (c : Caller) (call : PendingCall) : (s.endCall c call).resyncCnt = s.resyncCnt := by cases c <;> rfl
@[simp] theorem State.endCall_run (c : Caller) (call : PendingCall) : (s.endCall c call).run = s.run := by cases c <;> rfl
@[simp] theorem State.endCall_phase (c : Caller) (call : PendingCall) : (s.endCall c call).phase = s.phase := by cases c <;> rfl
@[simp] theorem State.endCall_tclosed (c : Caller) (call : PendingCall) : (s.endCall c call).tclosed = s.tclosed := by cases c <;> rfl
@[simp] theorem State.endCall_q (c : Caller) (call : PendingCall) : (s.endCall c call).q = s.q := by cases c <;> rfl
@[simp] theorem State.endCall_params (c : Caller) (call : PendingCall) : (s.endCall c call).params = s.params := by cases c <;> rfl
@[simp] theorem State.endCall_rx (c : Caller) (call : PendingCall) : (s.endCall c call).rx = s.rx := by cases c <;> rfl
@[simp] theorem State.endCall_tx (c : Caller) (call : PendingCall) : (s.endCall c call).tx = s.tx := by cases c <;> rfl
@[simp] theorem State.endCall_outcome (c : Caller) (call : PendingCall) : (s.endCall c call).outcome = s.outcome := by cases c <;> rfl
@[simp] theorem State.endCall_emitted (c : Caller) (call : PendingCall) : (s.endCall c call).emitted = s.emitted := by cases c <;> rfl
@[simp] theorem State.endCall_sink (c : Caller) (call : PendingCall) : (s.endCall c call).sink = s.sink := by cases c <;> rfl
@[simp] theorem State.endCall_draws (c : Caller) (call : PendingCall) : (s.endCall c call).draws = s.draws := by cases c <;> rfl
@[simp] theorem State.endCall_script (c : Caller) (call : PendingCall) : (s.endCall c call).script = s.script := by cases c <;> rfl
@[simp] theorem State.endCall_enclosed (c : Caller) (call : PendingCall) : (s.endCall c call).enclosed = s.enclosed := by cases c <;> rfl
@[simp] theorem State.endCall_fresh_pendingPops (call : PendingCall) : (s.endCall .fresh call).pendingPops = s.pendingPops := rfl
@[simp] theorem State.endCall_pending_pendingPops (call : PendingCall) : (s.endCall .pending call).pendingPops = s.pendingPops.erase call := rfl

/-! ### arrive -/

@[simp] theorem State.arrive_buf (bs : List Byte) : (s.arrive bs).buf = s.buf := rfl
@[simp] theorem State.arrive_resyncCnt (bs : List Byte) : (s.arrive bs).resyncCnt = s.resyncCnt := rfl
@[simp] theorem State.arrive_run (bs : List Byte) : (s.arrive bs).run = s.run := rfl
@[simp] theorem State.arrive_phase (bs : List Byte) : (s.arrive bs).phase = s.phase := rfl
@[simp] theorem State.arrive_tclosed (bs : List Byte) : (s.arrive bs).tclosed = s.tclosed := rfl
@[simp] theorem State.arrive_q (bs : List Byte) : (s.arrive bs).q = s.q := rfl
@[simp] theorem State.arrive_params (bs : List Byte) : (s.arrive bs).params = s.params := rfl
@[simp] theorem State.arrive_rx (bs : List Byte) : (s.arrive bs).rx = s.rx ++ bs := rfl
@[simp] theorem State.arrive_tx (bs : List Byte) : (s.arrive bs).tx = s.tx := rfl
@[simp] theorem State.arrive_pendingPops (bs : List Byte) : (s.arrive bs).pendingPops = s.pendingPops := rfl
@[simp] theorem State.arrive_outcome (bs : List Byte) : (s.arrive bs).outcome = s.outcome := rfl
@[simp] theorem State.arrive_emitted (bs : List Byte) : (s.arrive bs).emitted = s.emitted := rfl
@[simp] theorem State.arrive_sink (bs : List Byte) : (s.arrive bs).sink = s.sink := rfl
@[simp] theorem State.arrive_draws (bs : List Byte) : (s.arrive bs).draws = s.draws := rfl
@[simp] theorem State.arrive_script (bs : List Byte) : (s.arrive bs).script = s.script := rfl
@[simp] theorem State.arrive_enclosed (bs : List Byte) : (s.arrive bs).enclosed = s.enclosed := rfl

/-! ### streamWrite -/

@[simp] theorem State.streamWrite_buf (f : Frame) (a : WriteAnswer) : (s.streamWrite f a).buf = s.buf := rfl
@[simp] theorem State.streamWrite_resyncCnt (f : Frame) (a : WriteAnswer) : (s.streamWrite f a).resyncCnt = s.resyncCnt := rfl
@[simp] theorem State.streamWrite_run (f : Frame) (a : WriteAnswer) : (s.streamWrite f a).run = s.run := rfl
@[simp] theorem State.streamWrite_phase (f : Frame) (a : WriteAnswer) : (s.streamWrite f a).phase = s.phase := rfl
@[simp] theorem State.streamWrite_tclosed (f : Frame) (a : WriteAnswer) : (s.streamWrite f a).tclosed = s.tclosed := rfl
@[simp] theorem State.streamWrite_q (f : Frame) (a : WriteAnswer) : (s.streamWrite f a).q = s.q := rfl
@[simp] theorem State.streamWrite_params (f : Frame) (a : WriteAnswer) : (s.streamWrite f a).params = s.params := rfl
@[simp] theorem State.streamWrite_rx (f : Frame) (a : WriteAnswer) : (s.streamWrite f a).rx = s.rx := rfl
@[simp] theorem State.streamWrite_tx (f : Frame) (a : WriteAnswer) : (s.streamWrite f a).tx = s.tx ++ [⟨f, a⟩] := rfl
@[simp] theorem State.streamWrite_pendingPops (f : Frame) (a : WriteAnswer) : (s.streamWrite f a).pendingPops = s.pendingPops := rfl
@[simp] theorem State.streamWrite_outcome (f : Frame) (a : WriteAnswer) : (s.streamWrite f a).outcome = s.outcome := rfl
@[simp] theorem State.streamWrite_emitted (f : Frame) (a : WriteAnswer) : (s.streamWrite f a).emitted = s.emitted := rfl
@[simp] theorem State.streamWrite_sink (f : Frame) (a : WriteAnswer) : (s.streamWrite f a).sink = s.sink := rfl
@[simp] theorem State.streamWrite_draws (f : Frame) (a : WriteAnswer) : (s.streamWrite f a).draws = s.draws := rfl
@[simp] theorem State.streamWrite_script (f : Frame) (a : WriteAnswer) : (s.streamWrite f a).script = s.script := rfl
@[simp] theorem State.streamWrite_enclosed (f : Frame) (a : WriteAnswer) : (s.streamWrite f a).enclosed = s.enclosed := rfl

/-! ### abandonRead -/

@[simp] theorem State.abandonRead_buf : (s.abandonRead).buf = s.buf := by unfold State.abandonRead; split <;> rfl
@[simp] theorem State.abandonRead_resyncCnt : (s.abandonRead).resyncCnt = s.resyncCnt := by unfold State.abandonRead; split <;> rfl
@[simp] theorem State.abandonRead_run : (s.abandonRead).run = s.run := by unfold State.abandonRead; split <;> rfl
@[simp] theorem State.abandonRead_phase : (s.abandonRead).phase = s.phase := by unfold State.abandonRead; split <;> rfl
@[simp] theorem State.abandonRead_tclosed : (s.abandonRead).tclosed = s.tclosed := by unfold State.abandonRead; split <;> rfl
@[simp] theorem State.abandonRead_q : (s.abandonRead).q = s.q := by unfold State.abandonRead; split <;> rfl
@[simp] theorem State.abandonRead_params : (s.abandonRead).params = s.params := by unfold State.abandonRead; split <;> rfl
@[simp] theorem State.abandonRead_tx : (s.abandonRead).tx = s.tx := by unfold State.abandonRead; split <;> rfl
@[simp] theorem State.abandonRead_pendingPops : (s.abandonRead).pendingPops = s.pendingPops := by unfold State.abandonRead; split <;> rfl
@[simp] theorem State.abandonRead_outcome : (s.abandonRead).outcome = s.outcome := by unfold State.abandonRead; split <;> rfl
@[simp] theorem State.abandonRead_emitted : (s.abandonRead).emitted = s.emitted := by unfold State.abandonRead; split <;> rfl
@[simp] theorem State.abandonRead_sink : (s.abandonRead).sink = s.sink := by unfold State.abandonRead; split <;> rfl
@[simp] theorem State.abandonRead_script : (s.abandonRead).script = s.script := by unfold State.abandonRead; split <;> rfl
@[simp] theorem State.abandonRead_enclosed : (s.abandonRead).enclosed = s.enclosed := by unfold State.abandonRead; split <;> rfl
theorem State.abandonRead_of_reading (h : s.phase = .read) :
    s.abandonRead.rx = s.rx.drop (min (Config.abandonedBytes s.draws) s.request) ∧ s.abandonRead.draws = s.draws + 1 := by
  simp [State.abandonRead, h]
theorem State.abandonRead_of_not_reading (h : s.phase ≠ .read) : s.abandonRead = s := by
  simp [State.abandonRead, h]

/-! ### clear -/

@[simp] theorem State.clear_buf : (s.clear).buf = [] := rfl
@[simp] theorem State.clear_resyncCnt : (s.clear).resyncCnt = 0 := rfl
@[simp] theorem State.clear_run : (s.clear).run = false := rfl
@[simp] theorem State.clear_phase : (s.clear).phase = .idle := rfl
@[simp] theorem State.clear_tclosed : (s.clear).tclosed = false := rfl
@[simp] theorem State.clear_q : (s.clear).q = [] := rfl
@[simp] theorem State.clear_params : (s.clear).params = s.params := rfl
@[simp] theorem State.clear_rx : (s.clear).rx = s.rx := rfl
@[simp] theorem State.clear_tx : (s.clear).tx = s.tx := rfl
@[simp] theorem State.clear_pendingPops : (s.clear).pendingPops = s.pendingPops := rfl
@[simp] theorem State.clear_outcome : (s.clear).outcome = s.outcome := rfl
@[simp] theorem State.clear_emitted : (s.clear).emitted = s.emitted := rfl
@[simp] theorem State.clear_sink : (s.clear).sink = s.sink := rfl
@[simp] theorem State.clear_draws : (s.clear).draws = s.draws := rfl
@[simp] theorem State.clear_script : (s.clear).script = s.script := rfl
@[simp] theorem State.clear_enclosed : (s.clear).enclosed = s.enclosed := rfl

/-! ### withFetchWord -/

@[simp] theorem State.withFetchWord_buf (nbits w : Nat) : (s.withFetchWord nbits w).buf = s.buf := rfl
@[simp] theorem State.withFetchWord_resyncCnt (nbits w : Nat) : (s.withFetchWord nbits w).resyncCnt = s.resyncCnt := rfl
@[simp] theorem State.withFetchWord_run (nbits w : Nat) : (s.withFetchWord nbits w).run = s.run := rfl
@[simp] theorem State.withFetchWord_phase (nbits w : Nat) : (s.withFetchWord nbits w).phase = s.phase := rfl
@[simp] theorem State.withFetchWord_tclosed (nbits w : Nat) : (s.withFetchWord nbits w).tclosed = s.tclosed := rfl
@[simp] theorem State.withFetchWord_q (nbits w : Nat) : (s.withFetchWord nbits w).q = s.q := rfl
@[simp] theorem State.withFetchWord_params (nbits w : Nat) : (s.withFetchWord nbits w).params = s.params := rfl
@[simp] theorem State.withFetchWord_rx (nbits w : Nat) : (s.withFetchWord nbits w).rx = s.rx := rfl
@[simp] theorem State.withFetchWord_tx (nbits w : Nat) : (s.withFetchWord nbits w).tx = s.tx := rfl
@[simp] theorem State.withFetchWord_pendingPops (nbits w : Nat) : (s.withFetchWord nbits w).pendingPops = s.pendingPops := rfl
@[simp] theorem State.withFetchWord_outcome (nbits w : Nat) : (s.withFetchWord nbits w).outcome = s.outcome := rfl
@[simp] theorem State.withFetchWord_emitted (nbits w : Nat) : (s.withFetchWord nbits w).emitted = s.emitted := rfl
@[simp] theorem State.withFetchWord_sink (nbits w : Nat) : (s.withFetchWord nbits w).sink = s.sink := rfl
@[simp] theorem State.withFetchWord_draws (nbits w : Nat) : (s.withFetchWord nbits w).draws = s.draws := rfl

end Sys2Proof.Machine
end

