-- ==== Sys2Proof/Laws/Ops.lean ====
section
/-! SUPPORT. For each shared operation, once, everything it can do: the fetch, the pop, the pending calls, sequences. -/

namespace Sys2Proof.Machine

/-! ## Sequences -/

@[simp] theorem andThen_next (s : State) (k : State → Result) : andThen (.next s) k = k s := rfl
@[simp] theorem andThen_fault (why : Fault) (k : State → Result) : andThen (.fault why) k = .fault why := rfl
@[simp] theorem andThen_refused (why : Refusal) (k : State → Result) : andThen (.refused why) k = .refused why := rfl

@[simp] theorem execAll_nil (s : State) : execAll [] s = .next s := rfl
theorem execAll_cons (i : Instr) (is : List Instr) (s : State) :
    execAll (i :: is) s = andThen (exec i s) (execAll is) := rfl

theorem inPhase_of_eq {p : Phase} {s : State} (h : s.phase = p) (i : Instr) : inPhase p i s = exec i s := by
  simp [inPhase, h]

theorem inPhase_of_ne {p : Phase} {s : State} (h : s.phase ≠ p) (i : Instr) : inPhase p i s = .next s := by
  simp [inPhase, h]

/-- A sequence that goes on went on at its first operation. -/
theorem andThen_eq_next {r : Result} {k : State → Result} {t : State} (h : andThen r k = .next t) :
    ∃ s, r = .next s ∧ k s = .next t := by
  cases r with
  | next s => exact ⟨s, rfl, h⟩
  | fault why => cases h
  | refused why => cases h

/-! ## The fetch -/

/-- What a fetch that succeeds has done. -/
theorem fetch_ok {s t : State} {i : Instr} (h : fetch s = .ok (i, t)) :
    ∃ rest, s.script ≠ [] ∧ decode s.script = .ok (i, rest) ∧ (i.isMicro = false ∨ s.enclosed = true) ∧
      t = { s with script := rest, enclosed := false } := by
  unfold fetch at h
  split at h
  · cases h
  · split at h
    · cases h
    · split at h
      · cases h
      · rename_i hs _ j rest hd hm
        cases h
        refine ⟨rest, hs, hd, ?_, rfl⟩
        cases hi : i.isMicro <;> cases he : s.enclosed <;> simp [hi, he] at hm ⊢

/-- Bytes that decode are fetched, unless they are a micro-operation outside its enclosing operation. -/
theorem fetch_of_decode {s : State} {i : Instr} {rest : List Byte} (h : decode s.script = .ok (i, rest))
    (hm : i.isMicro = false ∨ s.enclosed = true) :
    fetch s = .ok (i, { s with script := rest, enclosed := false }) := by
  have hs : s.script ≠ [] := by
    intro hs
    rw [hs] at h
    cases h
  unfold fetch
  rw [if_neg hs, h]
  rcases hm with hm | hm <;> simp [hm]

theorem fetch_of_micro {s : State} {i : Instr} {rest : List Byte} (h : decode s.script = .ok (i, rest))
    (hm : i.isMicro = true) (he : s.enclosed = false) : fetch s = .error .microOperation := by
  have hs : s.script ≠ [] := by
    intro hs
    rw [hs] at h
    cases h
  unfold fetch
  rw [if_neg hs, h]
  simp [hm, he]

/-- A step that goes on fetched an operation and executed it. -/
theorem step_next {s t : State} (h : step s = .next t) : ∃ i u, fetch s = .ok (i, u) ∧ exec i u = .next t := by
  unfold step at h
  split at h
  · rename_i i u hf
    exact ⟨i, u, hf, h⟩
  · cases h

/-! ## Lengths and the window -/

theorem State.len_append_of_le {s : State} {k : Nat} (h : k ≤ s.rx.length) : (s.append k).len = s.len + k := by
  simp [State.len, h]

theorem State.request_le (s : State) : s.request ≤ 13 := by simp [State.request, Config.frameLen]

theorem State.window_none_of_lt {s : State} (h : s.len < 13) : s.window = none :=
  State.window_eq_none.mpr (by omega)

/-! ## The pop -/

theorem State.pop_cons {s : State} {f : Frame} {rest : List Frame} (h : s.q = f :: rest) (mode : PopMode) :
    s.pop mode = .got f { s with q := rest } := by simp [State.pop, h]

theorem State.pop_stopped {s : State} (h : s.q = []) (hp : s.phase = .stopped) (mode : PopMode) :
    s.pop mode = .empty s := by simp [State.pop, h, hp]

theorem State.pop_block {s : State} (h : s.q = []) (hp : s.phase ≠ .stopped) : s.pop .block = .wait s := by
  simp [State.pop, h, hp]

theorem State.pop_timeout {s : State} (h : s.q = []) (hp : s.phase ≠ .stopped) :
    s.pop .timeout = .empty s.drawn ∨ s.pop .timeout = .wait s.drawn := by
  cases ht : Config.timeoutElapsed s.draws
  · exact .inr (by simp [State.pop, h, hp, ht])
  · exact .inl (by simp [State.pop, h, hp, ht])

/-- What ending or keeping a call can touch: the pending calls, and nothing else. -/
theorem State.endCall_eq (s : State) (caller : Caller) (call : PendingCall) :
    ∃ calls, s.endCall caller call = { s with pendingPops := calls } := by
  cases caller
  · exact ⟨s.pendingPops, rfl⟩
  · exact ⟨s.pendingPops.erase call, rfl⟩

theorem State.keepCall_eq (s : State) (caller : Caller) (call : PendingCall) :
    ∃ calls, s.keepCall caller call = { s with pendingPops := calls } := by
  cases caller
  · exact ⟨s.pendingPops ++ [call], rfl⟩
  · exact ⟨s.pendingPops, rfl⟩

/-- A consumer's call that completes or waits: it was new or pending, and it returned the head frame, or `Empty` on an empty
queue, or waits on an empty queue of a loop that has not stopped. -/
theorem popCall_next {op : PopOp} {mode : PopMode} {caller : Caller} {finish : Option Frame → State → State}
    {s t : State} (h : popCall op mode caller finish s = .next t) :
    (caller = .pending → ⟨op, mode⟩ ∈ s.pendingPops) ∧
    ((∃ f rest, s.q = f :: rest ∧ t = finish (some f) (State.endCall { s with q := rest } caller ⟨op, mode⟩)) ∨
     (s.q = [] ∧ ∃ n, t = finish none (State.endCall { s with draws := n } caller ⟨op, mode⟩)) ∨
     (s.q = [] ∧ s.phase ≠ .stopped ∧
        ∃ n, t = (State.keepCall { s with draws := n } caller ⟨op, mode⟩).block .queueEmpty)) := by
  unfold popCall at h
  split at h
  · cases h
  · rename_i hg
    refine ⟨fun hc => by simpa [hc] using hg, ?_⟩
    obtain hq | ⟨f, rest, hq⟩ : s.q = [] ∨ ∃ f rest, s.q = f :: rest := by
      cases s.q with
      | nil => exact .inl rfl
      | cons f rest => exact .inr ⟨f, rest, rfl⟩
    · by_cases hp : s.phase = .stopped
      · rw [State.pop_stopped hq hp] at h
        cases h
        exact .inr (.inl ⟨hq, s.draws, rfl⟩)
      · cases mode with
        | block =>
          rw [State.pop_block hq hp] at h
          cases h
          exact .inr (.inr ⟨hq, hp, s.draws, rfl⟩)
        | timeout =>
          rcases State.pop_timeout hq hp with ht | ht <;> rw [ht] at h <;> cases h
          · exact .inr (.inl ⟨hq, s.draws + 1, rfl⟩)
          · exact .inr (.inr ⟨hq, hp, s.draws + 1, rfl⟩)
    · rw [State.pop_cons hq] at h
      cases h
      exact .inl ⟨f, rest, hq, rfl⟩

/-! ## What the results of a pop touch -/

theorem finishPop_eq (r : Option Frame) (s : State) : ∃ o, finishPop r s = { s with outcome := o } := by
  cases r
  · exact ⟨_, rfl⟩
  · exact ⟨_, rfl⟩

theorem finishRecv_eq (r : Option Frame) (s : State) : ∃ o, finishRecv r s = { s with outcome := o } := by
  cases r with
  | none => exact ⟨_, rfl⟩
  | some f =>
    cases hd : decodeMessage s.params f with
    | ok m => exact ⟨.completed (.received (some m) false), by simp only [finishRecv, hd]; rfl⟩
    | error why => exact ⟨.completed (.error why), by simp only [finishRecv, hd]; rfl⟩

/-- A pop of either kind touches the head of the queue, the pending calls, the draws and the outcome, and nothing else. -/
theorem popCall_frame {op : PopOp} {mode : PopMode} {caller : Caller} {finish : Option Frame → State → State}
    (hf : ∀ r u, ∃ o, finish r u = { u with outcome := o })
    {s t : State} (h : popCall op mode caller finish s = .next t) :
    ∃ q calls o n, t = { s with q := q, pendingPops := calls, outcome := o, draws := n } ∧
      (q = s.q ∨ ∃ f, s.q = f :: q) := by
  obtain ⟨-, ⟨f, rest, hq, rfl⟩ | ⟨hq, n, rfl⟩ | ⟨hq, -, n, rfl⟩⟩ := popCall_next h
  · obtain ⟨calls, hc⟩ := State.endCall_eq { s with q := rest } caller ⟨op, mode⟩
    obtain ⟨o, ho⟩ := hf (some f) (State.endCall { s with q := rest } caller ⟨op, mode⟩)
    rw [ho, hc]
    exact ⟨rest, calls, o, s.draws, rfl, .inr ⟨f, hq⟩⟩
  · obtain ⟨calls, hc⟩ := State.endCall_eq { s with draws := n } caller ⟨op, mode⟩
    obtain ⟨o, ho⟩ := hf none (State.endCall { s with draws := n } caller ⟨op, mode⟩)
    rw [ho, hc]
    exact ⟨s.q, calls, o, n, rfl, .inl rfl⟩
  · obtain ⟨calls, hc⟩ := State.keepCall_eq { s with draws := n } caller ⟨op, mode⟩
    rw [hc]
    exact ⟨s.q, calls, .blocked .queueEmpty, n, rfl, .inl rfl⟩

end Sys2Proof.Machine
end

