-- ==== Sys2Proof/Laws/Exec.lean ====
section
/-! SUPPORT. One inversion lemma per meaning: if it answers a next state, which of its branches that was. -/

namespace Sys2Proof.Machine

variable {s t : State}

theorem execFrame13_next {f : FrameFields} (h : execFrame13 f s = .next t) :
    t = (s.arrive f.toFrame.bytes).done .unit := by
  cases h
  rfl

theorem execReset_next (h : execReset s = .next t) : t = s.abandonRead.clear.done .unit := by
  cases h
  rfl

theorem execStart_next (h : execStart s = .next t) :
    s.phase = .idle ∧ t = ((s.setRun true).setPhase .check).done .unit := by
  unfold execStart at h
  split at h
  · cases h
    exact ⟨‹_›, rfl⟩
  · cases h

theorem execStop_next (h : execStop s = .next t) : t = (s.setRun false).done .unit := by
  cases h
  rfl

/-- `ENCODE` touches the outcome and nothing else. -/
theorem execEncode_next {identifier : Word} {r e : Bool} {payload : List Byte}
    (h : execEncode identifier r e payload s = .next t) : ∃ o, t = { s with outcome := .completed o } := by
  unfold execEncode at h
  split at h <;> cases h
  · exact ⟨_, rfl⟩
  · exact ⟨_, rfl⟩

/-- `DECODE` touches the outcome and nothing else. -/
theorem execDecode_next {w : Frame} (h : execDecode w s = .next t) : ∃ o, t = { s with outcome := .completed o } := by
  unfold execDecode at h
  split at h <;> cases h
  · exact ⟨_, rfl⟩
  · exact ⟨_, rfl⟩

/-- `SEND` touches the outbound stream and the outcome and nothing else. -/
theorem execSend_next {identifier : Word} {r e : Bool} {a : WriteAnswer} {payload : List Byte}
    (h : execSend identifier r e a payload s = .next t) : ∃ o writes, t = { s with outcome := o, tx := writes } := by
  unfold execSend at h
  split at h <;> cases h
  · exact ⟨_, _, rfl⟩
  · exact ⟨_, _, rfl⟩

theorem execQPop_next {mode : PopMode} {caller : Caller} (h : execQPop mode caller s = .next t) :
    ∃ q calls o n, t = { s with q := q, pendingPops := calls, outcome := o, draws := n } ∧
      (q = s.q ∨ ∃ f, s.q = f :: q) := popCall_frame finishPop_eq h

theorem execRecv_next {mode : PopMode} {caller : Caller} (h : execRecv mode caller s = .next t) :
    ∃ q calls o n, t = { s with q := q, pendingPops := calls, outcome := o, draws := n } ∧
      (q = s.q ∨ ∃ f, s.q = f :: q) := popCall_frame finishRecv_eq h

theorem execSyncCheck_next {a : OpenAnswer} (h : execSyncCheck a s = .next t) :
    s.phase = .check ∧
    ((s.run = false ∧ t = (s.setPhase .stopped).done .unit) ∨
     (s.run = true ∧ a = .closed ∧ t = (s.latchClosed.setPhase .stopped).done .unit) ∨
     (s.run = true ∧ a = .isOpen ∧ t = (s.setPhase .read).done .unit)) := by
  unfold execSyncCheck at h
  split at h
  · refine ⟨‹_›, ?_⟩
    split at h
    · cases a <;> cases h
      · exact .inr (.inr ⟨‹_›, rfl, rfl⟩)
      · exact .inr (.inl ⟨‹_›, rfl, rfl⟩)
    · cases h
      exact .inl ⟨by simpa using ‹¬ s.run = true›, rfl⟩
  · cases h

theorem execSyncRead_next {a : ReadAnswer} (h : execSyncRead a s = .next t) :
    s.phase = .read ∧
    (((a = .err ∨ a = .rx 0) ∧ t = (s.setPhase .check).done .unit) ∨
     ∃ k, a = .rx k ∧ 1 ≤ k ∧ k ≤ s.request ∧
       ((s.rx.length < k ∧ t = s.block .readOutstanding) ∨ (k ≤ s.rx.length ∧ t = (s.fill k).done .unit))) := by
  unfold execSyncRead at h
  split at h
  · refine ⟨‹_›, ?_⟩
    cases a with
    | err =>
      cases h
      exact .inl ⟨.inl rfl, rfl⟩
    | rx k =>
      dsimp only at h
      split at h
      · cases h
        exact .inl ⟨.inr (by simpa using ‹k = 0›), rfl⟩
      · refine .inr ⟨k, rfl, by omega, ?_⟩
        split at h
        · cases h
        · refine ⟨by omega, ?_⟩
          split at h <;> cases h
          · exact .inl ⟨‹_›, rfl⟩
          · exact .inr ⟨by omega, rfl⟩
  · cases h

theorem execSyncValidate_next (h : execSyncValidate s = .next t) :
    s.phase = .validate ∧ ∃ w, s.window = some w ∧
    ((frameValid s.params w = false ∧
        ∃ kind, t = ((s.emit (.reject w kind)).shed).done .unit) ∨
     (frameValid s.params w = true ∧ t = ((s.emit (.accept w)).setPhase .deliver).done .unit)) := by
  unfold execSyncValidate at h
  split at h
  · refine ⟨‹_›, ?_⟩
    split at h
    · cases h
    · rename_i w hw
      refine ⟨w, hw, ?_⟩
      cases hm : markerOk w
      · simp only [hm, Bool.not_false, if_true] at h
        cases h
        exact .inl ⟨by simp [frameValid, hm], _, rfl⟩
      · cases hc : crcOk s.params w <;>
          simp only [hm, hc, Bool.not_true, Bool.not_false, if_true, if_false, Bool.false_eq_true] at h <;> cases h
        · exact .inl ⟨by simp [frameValid, hc], _, rfl⟩
        · exact .inr ⟨by simp [frameValid, hm, hc], rfl⟩
  · cases h

theorem execSyncDeliver_next (h : execSyncDeliver s = .next t) :
    s.phase = .deliver ∧
    ((s.qlen < 5 ∧ ∃ w, s.window = some w ∧ t = (s.deliver w).done .unit) ∨
     (5 ≤ s.qlen ∧ t = s.block .queueFull)) := by
  unfold execSyncDeliver at h
  split at h
  · refine ⟨‹_›, ?_⟩
    split at h
    · refine .inl ⟨‹_›, ?_⟩
      split at h <;> cases h
      exact ⟨_, ‹_›, rfl⟩
    · cases h
      exact .inr ⟨by simpa [Config.qCap] using ‹¬ s.qlen < Config.qCap›, rfl⟩
  · cases h

theorem execSyncShed_next (h : execSyncShed s = .next t) : s.len = 13 ∧ t = s.shed.done .unit := by
  unfold execSyncShed at h
  split at h <;> cases h
  exact ⟨State.len_of_window ‹_›, rfl⟩

theorem execQPush_next {f : Frame} (h : execQPush f s = .next t) :
    (s.qlen < 5 ∧ t = (s.push f).done .unit) ∨ (5 ≤ s.qlen ∧ t = s.block .queueFull) := by
  unfold execQPush at h
  split at h <;> cases h
  · exact .inl ⟨‹_›, rfl⟩
  · exact .inr ⟨by simpa [Config.qCap] using ‹¬ s.qlen < Config.qCap›, rfl⟩

end Sys2Proof.Machine
end

