-- ==== Sys2Proof/Laws/Loop.lean ====
section
/-! SUPPORT. Laws of `Deframe` as it is computed: rounds beyond those a stream needs change nothing. -/

namespace Sys2Proof.Machine

/-- A round that is short of a window stops. -/
theorem deframeFuel_short (p : Params) (n : Nat) {b s : List Byte} (h : b.length + s.length < 13) :
    deframeFuel p n b s = ⟨[], b ++ s, 0⟩ := by
  cases n with
  | zero => rfl
  | succ n => simp [deframeFuel, Config.frameLen, h]

/-- A round with a whole window: `w` is the window, `rest` what stays in the stream. -/
theorem deframeFuel_window (p : Params) (n : Nat) {b s rest : List Byte} {w : Frame} (hb : b.length ≤ 13)
    (h : b ++ s = w.bytes ++ rest) :
    deframeFuel p (n + 1) b s =
      if frameValid p w then
        ⟨w :: (deframeFuel p n [] rest).frames, (deframeFuel p n [] rest).leftover, (deframeFuel p n [] rest).shed⟩
      else
        ⟨(deframeFuel p n w.bytes.tail rest).frames, (deframeFuel p n w.bytes.tail rest).leftover,
          (deframeFuel p n w.bytes.tail rest).shed + 1⟩ := by
  have hl : b.length + s.length = 13 + rest.length := by
    have := congrArg List.length h
    simpa using this
  have hw : b ++ s.take (13 - b.length) = w.bytes := by
    have := congrArg (List.take 13) h
    rw [List.take_append, List.take_of_length_le hb] at this
    rw [this]
    rfl
  have hr : s.drop (13 - b.length) = rest := by
    have := congrArg (List.drop 13) h
    rw [List.drop_append, List.drop_of_length_le hb] at this
    exact this
  have hn : ¬ b.length + s.length < 13 := by omega
  simp only [deframeFuel, Config.frameLen, if_neg hn, hw, hr, frameOfBytes_bytes, List.drop_one]

/-- With at least one round for each byte of the stream and one more, the number of rounds does not matter. -/
theorem deframeFuel_enough (p : Params) (n m : Nat) {b s : List Byte} (hb : b.length ≤ 12) (hn : s.length < n)
    (hm : s.length < m) : deframeFuel p n b s = deframeFuel p m b s := by
  induction n generalizing m b s with
  | zero => omega
  | succ n ih =>
    cases m with
    | zero => omega
    | succ m =>
      by_cases hs : b.length + s.length < 13
      · rw [deframeFuel_short p _ hs, deframeFuel_short p _ hs]
      · obtain ⟨w, -, hw⟩ := frameOfBytes_of_length (l := (b ++ s).take 13) (by simp; omega)
        have h : b ++ s = w.bytes ++ (b ++ s).drop 13 := by rw [hw, List.take_append_drop]
        have hl : ((b ++ s).drop 13).length < s.length := by simp; omega
        rw [deframeFuel_window p n (by omega) h, deframeFuel_window p m (by omega) h]
        rw [ih m (b := []) (by simp) (by omega) (by omega)]
        rw [ih m (b := w.bytes.tail) (by simp) (by omega) (by omega)]

end Sys2Proof.Machine
end

