-- ==== Sys2Proof/Laws/PerInstr.lean ====
section
/-! SUPPORT. A fact about every operation as syntax, one lemma per constructor: what the first byte of its encoding is. -/

namespace Sys2Proof.Laws.FirstByte

/-- The first byte of an operation's encoding: its label of R67, or for the wire frame a byte with the marker (R61). -/
def Statement (i : Instr) : Prop :=
  ∃ b, (encode i).head? = some b ∧
    match i with
    | .frame13 _ => b.toNat / 8 = 0x15
    | .reset => b = 0x0
    | .start => b = 0x1
    | .stop => b = 0x2
    | .crc16 _ => b = 0x3
    | .encodeMsg _ _ _ _ => b = 0x4
    | .decodeFrame _ => b = 0x5
    | .qPop _ _ => b = 0x6
    | .send _ _ _ _ _ => b = 0x7
    | .recv _ _ => b = 0x8
    | .syncCheck _ => b = 0x9
    | .syncRead _ => b = 0xA
    | .syncValidate => b = 0xB
    | .syncShed => b = 0xC
    | .syncDeliver => b = 0xD
    | .crc16Update _ _ => b = 0xE
    | .qPush _ => b = 0xF

theorem frame13 (f : FrameFields) : Statement (.frame13 f) := by
  refine ⟨f.toFrame.b0, rfl, ?_⟩
  have h : f.toFrame.b0.toNat = Config.marker.toNat * 2 ^ 3 + (f.id.extractLsb' 8 3).toNat :=
    toNat_append_eq Config.marker (f.id.extractLsb' 8 3)
  have hl := (f.id.extractLsb' 8 3).isLt
  have hm : Config.marker.toNat = 21 := rfl
  show f.toFrame.b0.toNat / 8 = 21
  omega

theorem reset : Statement .reset := ⟨_, rfl, rfl⟩
theorem start : Statement .start := ⟨_, rfl, rfl⟩
theorem stop : Statement .stop := ⟨_, rfl, rfl⟩
theorem crc16 (span : List Byte) : Statement (.crc16 span) := ⟨_, rfl, rfl⟩
theorem encodeMsg (identifier : Word) (isRemote isExtended : Bool) (payload : List Byte) :
    Statement (.encodeMsg identifier isRemote isExtended payload) := ⟨_, rfl, rfl⟩
theorem decodeFrame (w : Frame) : Statement (.decodeFrame w) := ⟨_, rfl, rfl⟩
theorem qPop (mode : PopMode) (caller : Caller) : Statement (.qPop mode caller) := ⟨_, rfl, rfl⟩
theorem send (identifier : Word) (isRemote isExtended : Bool) (answer : WriteAnswer) (payload : List Byte) :
    Statement (.send identifier isRemote isExtended answer payload) := ⟨_, rfl, rfl⟩
theorem recv (mode : PopMode) (caller : Caller) : Statement (.recv mode caller) := ⟨_, rfl, rfl⟩
theorem syncCheck (answer : OpenAnswer) : Statement (.syncCheck answer) := ⟨_, rfl, rfl⟩
theorem syncRead (answer : ReadAnswer) : Statement (.syncRead answer) := ⟨_, rfl, rfl⟩
theorem syncValidate : Statement .syncValidate := ⟨_, rfl, rfl⟩
theorem syncShed : Statement .syncShed := ⟨_, rfl, rfl⟩
theorem syncDeliver : Statement .syncDeliver := ⟨_, rfl, rfl⟩
theorem crc16Update (crc : Word) (b : Byte) : Statement (.crc16Update crc b) := ⟨_, rfl, rfl⟩
theorem qPush (f : Frame) : Statement (.qPush f) := ⟨_, rfl, rfl⟩

end Sys2Proof.Laws.FirstByte
end

