-- ==== Sys2Proof/Tests/Slice0.lean ====
section
/-! SUPPORT. Checks of the model's own work. Expected values are those of spec/95_test_vectors.md, named beside each test, or written
out by hand from the rule named. Then one witness for the hypotheses of every statement that has any. -/

open Sys2Proof Sys2Proof.Machine

namespace Sys2Proof.Tests

/-! ## Named frames (95_test_vectors.md section 0) and small states -/

def f1 : Frame := ⟨0xA8, 0x02, 0x08, 0x11, 0x22, 0x33, 0x44, 0x55, 0x66, 0x77, 0x00, 0x09, 0xA1⟩
def f2 : Frame := ⟨0xAF, 0xFF, 0xC0, 0, 0, 0, 0, 0, 0, 0, 0, 0x51, 0x04⟩
def f3 : Frame := ⟨0xA9, 0x23, 0x03, 0xA8, 0xAA, 0xAF, 0, 0, 0, 0, 0, 0xD6, 0x64⟩
def f4 : Frame := ⟨0xAD, 0x55, 0x44, 0xDE, 0xAD, 0xBE, 0xEF, 0, 0, 0, 0, 0x11, 0xCB⟩
def f5 : Frame := ⟨0xA8, 0, 0, 0, 0, 0, 0, 0, 0, 0, 0, 0x2E, 0x86⟩
def f6 : Frame := ⟨0xAC, 0x00, 0x81, 0x01, 0, 0, 0, 0, 0, 0, 0, 0x96, 0x2C⟩
/-- F1 with its CRC bytes zeroed (S2). -/
def badCrc : Frame := ⟨0xA8, 0x02, 0x08, 0x11, 0x22, 0x33, 0x44, 0x55, 0x66, 0x77, 0x00, 0x00, 0x00⟩
/-- The right CRC under a wrong marker (V-DEC-9). -/
def badMarker : Frame := ⟨0x28, 0x02, 0x08, 0x11, 0x22, 0x33, 0x44, 0x55, 0x66, 0x77, 0x00, 0xA0, 0x63⟩
/-- The first window of program P2. -/
def stray : Frame := ⟨0x5A, 0xA8, 0x02, 0x08, 0x11, 0x22, 0x33, 0x44, 0x55, 0x66, 0x77, 0x00, 0x09⟩

def ffff : Params := { crcInit := .ffff, resyncW := 16 }
def zero : Params := { crcInit := .zero, resyncW := 16 }

/-- A state in a phase, with a buffer and a queue; `RUN` set. -/
def st (phase : Phase) (buf : List Byte) (q : List Frame) : State :=
  { State.reset with phase := phase, run := true, buf := buf, q := q }

def message1 : Message :=
  { identifier := 0x002, isRemote := false, isExtended := false, dlc := 8
    payload := [0x11, 0x22, 0x33, 0x44, 0x55, 0x66, 0x77, 0x00], fmtWarn := false }

/-- What a result's next state shows, if it is one. -/
def view {α : Type} (look : State → α) : Result → Option α
  | .next t => some (look t)
  | .fault _ => none
  | .refused _ => none

/-- How a result stops, if it does. -/
def stops : Result → Option (Fault ⊕ Refusal)
  | .next _ => none
  | .fault why => some (.inl why)
  | .refused why => some (.inr why)

/-- `(PHASE, RUN, LEN, RESYNC_CNT, QLEN, TCLOSED)`, as 95_test_vectors.md writes a state. -/
structure Shown where
  phase : Phase
  run : Bool
  len : Nat
  resyncCnt : Nat
  qlen : Nat
  tclosed : Bool
deriving DecidableEq, Repr

def tuple (s : State) : Shown := ⟨s.phase, s.run, s.len, s.resyncCnt, s.qlen, s.tclosed⟩

/-! ## Well-formedness: one ill-formed term for the one check, and what the types leave no term for is refused by the decoder -/

theorem test_wellFormed_accepts_13 : (Instr.syncRead (.rx 13)).wellFormed = true := by decide
theorem test_wellFormed_refuses_14 : (Instr.syncRead (.rx 14)).wellFormed = false := by decide
theorem test_decode_refuses_rx_14 : decode [0x0A, 14] = .error (.operands 0x0A .reserved) := by decide
theorem test_decode_refuses_flags_4 : decode [0x04, 0, 0, 4, 0] = .error (.operands 0x04 .reserved) := by decide
theorem test_decode_refuses_mode_2 : decode [0x06, 2, 0] = .error (.operands 0x06 .reserved) := by decide
theorem test_decode_refuses_label_16 : decode [0x10] = .error (.unknownLabel 0x10) := by decide
theorem test_decode_refuses_short_frame : decode [0xA8, 0, 0] = .error (.operands 0xA8 .missing) := by decide

/-! ## Decoding: a word of every row, written out from R60 and R67 -/

/-- R62, R63: bytes AD 55 44 .. of F4 by hand: id_hi 101, id_lo 01010101, byte 2 = 0 1 00 0100. -/
theorem test_decode_frame13 : decode f4.bytes = .ok (.frame13
    { id := 0b10101010101, r := false, e := true, rsvd := 0, dlc := 4, p0 := 0xDE, p1 := 0xAD, p2 := 0xBE, p3 := 0xEF
      p4 := 0, p5 := 0, p6 := 0, p7 := 0, crcLo := 0x11, crcHi := 0xCB }, []) := by decide
theorem test_decode_reset : decode [0b0000] = .ok (.reset, []) := by decide
theorem test_decode_start : decode [0b0001] = .ok (.start, []) := by decide
theorem test_decode_stop : decode [0b0010] = .ok (.stop, []) := by decide
theorem test_decode_crc16 : decode [0b0011, 1, 0xA8, 1, 0x02, 0] = .ok (.crc16 [0xA8, 0x02], []) := by decide
theorem test_decode_encode : decode [0b0100, 0x23, 0x01, 0b10, 1, 0xA8, 0] =
    .ok (.encodeMsg 0x123 false true [0xA8], []) := by decide
theorem test_decode_decode : decode (0b0101 :: f3.bytes) = .ok (.decodeFrame f3, []) := by decide
theorem test_decode_qPop : decode [0b0110, 1, 0] = .ok (.qPop .timeout .fresh, []) := by decide
theorem test_decode_send : decode [0b0111, 0xFF, 0x07, 0b01, 1, 0] =
    .ok (.send 0x7FF true false .writeError [], []) := by decide
theorem test_decode_recv : decode [0b1000, 0, 1] = .ok (.recv .block .pending, []) := by decide
theorem test_decode_syncCheck : decode [0b1001, 1] = .ok (.syncCheck .closed, []) := by decide
theorem test_decode_syncRead : decode [0b1010, 5, 0xEE] = .ok (.syncRead (.rx 5), [0xEE]) := by decide
theorem test_decode_syncValidate : decode [0b1011] = .ok (.syncValidate, []) := by decide
theorem test_decode_syncShed : decode [0b1100] = .ok (.syncShed, []) := by decide
theorem test_decode_syncDeliver : decode [0b1101] = .ok (.syncDeliver, []) := by decide
theorem test_decode_crc16Update : decode [0b1110, 0xBE, 0xFE, 0x02] = .ok (.crc16Update 0xFEBE 0x02, []) := by decide
theorem test_decode_qPush : decode (0b1111 :: f1.bytes) = .ok (.qPush f1, []) := by decide

/-- A label alone, as the opcode table has it, is completed with operands of zeros. -/
theorem test_table_word_encode : decodeTableWord 8 0x4 = some (.encodeMsg 0 false false []) := by decide
theorem test_table_word_read : decodeTableWord 8 0xA = some (.syncRead (.rx 0)) := by decide
/-- R66: `match` itself, F5 without its CRC, byte 0 the most significant. -/
theorem test_table_word_frame : decodeTableWord 104 0xA8000000000000000000000000 = some (.frame13
    { id := 0, r := false, e := false, rsvd := 0, dlc := 0, p0 := 0, p1 := 0, p2 := 0, p3 := 0, p4 := 0, p5 := 0
      p6 := 0, p7 := 0, crcLo := 0, crcHi := 0 }) := by decide

/-! ## Codes the spec gives (R26, R160) -/

theorem test_phase_codes :
    [Phase.idle, .check, .read, .validate, .deliver, .stopped].map Phase.code = [0, 1, 2, 3, 4, 5] := by decide
theorem test_error_codes :
    [ErrorKind.invalidIdentifier, .payloadTooLong, .checksumMismatch, .markerMismatch, .transportClosed, .queueFull,
      .empty, .readError, .writeError].map ErrorKind.code = [1, 2, 3, 4, 5, 6, 7, 8, 9] := by decide

/-! ## The CRC Engine (95_test_vectors.md 2.1) -/

/-- V-CRC-8, the customary check string. -/
theorem test_crc16_check_string : view id (exec (.crc16 [0x31, 0x32, 0x33, 0x34, 0x35, 0x36, 0x37, 0x38, 0x39]) State.reset) =
    some { State.reset with outcome := .completed (.crc 0x4B37) } := by decide +kernel
/-- V-CRC-12 for `CRC_INIT = 0x0000`. -/
theorem test_crc16_zero_init : view id (exec (.crc16 f1.span) { State.reset with params := zero }) =
    some { State.reset with params := zero, outcome := .completed (.crc 0x450F) } := by decide +kernel
/-- 2.1: `CRC16.UPDATE(0x0000, 0x01)`. -/
theorem test_crc16Update_one : view id (exec (.crc16Update 0x0000 0x01) State.reset) =
    some { State.reset with outcome := .completed (.crc 0xC0C1) } := by decide +kernel
/-- 2.1: `CRC16.UPDATE(0xFEBE, 0x02)`. -/
theorem test_crc16Update_two : view id (exec (.crc16Update 0xFEBE 0x02) State.reset) =
    some { State.reset with outcome := .completed (.crc 0xB1FF) } := by decide +kernel

/-! ## ENCODE, DECODE, SEND (2.2, 2.3, 2.6) -/

/-- V-ENC-7: flags, identifier bits 10 to 8, padding. -/
theorem test_encode_f6 : view id (exec (.encodeMsg 0x400 true false [0x01]) State.reset) =
    some { State.reset with outcome := .completed (.encoded f6 false) } := by decide +kernel
/-- V-ENC-10: ten bytes offered. -/
theorem test_encode_truncates : view id (exec (.encodeMsg 0x010 false false [1, 2, 3, 4, 5, 6, 7, 8, 9, 10]) State.reset) =
    some { State.reset with outcome := .completed (.encoded
      ⟨0xA8, 0x10, 0x08, 1, 2, 3, 4, 5, 6, 7, 8, 0xB8, 0x17⟩ true) } := by decide +kernel
/-- V-DEC-12: reserved bits, `dlc = 12`. -/
theorem test_decode_warns : view id (exec (.decodeFrame
    ⟨0xA8, 0x02, 0x3C, 0x11, 0x22, 0x33, 0x44, 0x55, 0x66, 0x77, 0x00, 0x6F, 0x60⟩) State.reset) =
    some { State.reset with outcome := .completed (.decoded { message1 with dlc := 12, fmtWarn := true }) } := by
  decide +kernel
/-- V-DEC-10: both tests fail, the CRC is named. -/
theorem test_decode_names_crc_first : view id (exec (.decodeFrame { f1 with b0 := 0x28 }) State.reset) =
    some { State.reset with outcome := .completed (.error (.checksumMismatch { f1 with b0 := 0x28 })) } := by
  decide +kernel
/-- V-SND-3. -/
theorem test_send_write_error :
    view id (exec (.send 0x002 false false .writeError [0x11, 0x22, 0x33, 0x44, 0x55, 0x66, 0x77, 0x00]) State.reset) =
    some { State.reset with tx := [⟨f1, .writeError⟩], outcome := .completed (.sent .writeError false) } := by
  decide +kernel
/-- V-SND-2. -/
theorem test_send_invalid : view id (exec (.send 0x800 false false .success []) State.reset) =
    some { State.reset with outcome := .completed (.error (.invalidIdentifier 0x800)) } := by decide

/-! ## The synchronizer, one step at a time (2.4) -/

/-- V-SYN-20. -/
theorem test_reset_from_stopped :
    view tuple (exec .reset { st .stopped (f1.bytes.take 7) [f1, f2] with run := false, tclosed := true }) =
      some ⟨.idle, false, 0, 0, 0, false⟩ := by decide
/-- V-SYN-1. -/
theorem test_start : view tuple (exec .start State.reset) = some ⟨.check, true, 0, 0, 0, false⟩ := by decide
/-- V-SYN-2. -/
theorem test_start_refused : stops (exec .start (st .check [] [])) = some (.inr .startNotIdle) := by decide
/-- V-SYN-19. -/
theorem test_stop_in_read : view tuple (exec .stop (st .read (f1.bytes.take 3) [])) =
    some ⟨.read, false, 3, 0, 0, false⟩ := by decide
/-- V-SYN-6. -/
theorem test_check_closed : view tuple (exec (.syncCheck .closed) (st .check (f1.bytes.take 7) [f1, f2])) =
    some ⟨.stopped, true, 7, 0, 2, true⟩ := by decide
/-- V-SYN-7. -/
theorem test_check_run_wins :
    view tuple (exec (.syncCheck .closed) { st .check (f1.bytes.take 7) [f1, f2] with run := false }) =
      some ⟨.stopped, false, 7, 0, 2, false⟩ := by decide
/-- V-SYN-11, with a byte of the stream left over. -/
theorem test_read_fills : view id (exec (.syncRead (.rx 5)) { st .read (f1.bytes.take 8) [] with rx := f1.bytes.drop 8 ++ [0xEE] }) =
    some { st .validate f1.bytes [] with rx := [0xEE] } := by decide
/-- V-SYN-9. -/
theorem test_read_error : view tuple (exec (.syncRead .err) { st .read (f1.bytes.take 5) [] with resyncCnt := 2 }) =
    some ⟨.check, true, 5, 2, 0, false⟩ := by decide
/-- V-SYN-14. -/
theorem test_validate_sheds :
    view (fun t => (tuple t, t.buf, t.emitted)) (exec .syncValidate { st .validate stray.bytes [f1] with resyncCnt := 4 }) =
      some (⟨.check, true, 12, 5, 1, false⟩,
        [0xA8, 0x02, 0x08, 0x11, 0x22, 0x33, 0x44, 0x55, 0x66, 0x77, 0x00, 0x09], [.reject stray .markerMismatch]) := by
  decide +kernel
/-- V-SYN-12. -/
theorem test_validate_accepts :
    view (fun t => (tuple t, t.emitted)) (exec .syncValidate (st .validate f1.bytes [])) =
      some (⟨.deliver, true, 13, 0, 0, false⟩, [.accept f1]) := by decide +kernel
/-- V-SYN-18: the counter saturates. -/
theorem test_shed_saturates : view tuple (exec .syncShed { st .validate stray.bytes [] with resyncCnt := 65535 }) =
    some ⟨.check, true, 12, 65535, 0, false⟩ := by decide +kernel
/-- V-SYN-13. -/
theorem test_deliver : view (fun t => (tuple t, t.q)) (exec .syncDeliver (st .deliver f1.bytes [])) =
    some (⟨.check, true, 0, 0, 1, false⟩, [f1]) := by decide
/-- V-SYN-16. -/
theorem test_deliver_blocked :
    view (fun t => (tuple t, t.outcome)) (exec .syncDeliver { st .deliver f6.bytes [f1, f2, f3, f4, f5] with resyncCnt := 7 }) =
      some (⟨.deliver, true, 13, 7, 5, false⟩, .blocked .queueFull) := by decide

/-! ## The queue and the transport (2.5) -/

/-- V-Q-2. -/
theorem test_pop_fifo : view (fun t => (t.q, t.outcome)) (exec (.qPop .block .fresh) (st .check [] [f1, f2])) =
    some ([f2], .completed (.frame f1)) := by decide
/-- V-Q-5. -/
theorem test_pop_blocks : view (fun t => (t.outcome, t.pendingPops)) (exec (.qPop .block .fresh) (st .read [] [])) =
    some (.blocked .queueEmpty, [⟨.pop, .block⟩]) := by decide
/-- V-Q-9. -/
theorem test_recv_decodes : view (fun t => (t.q, t.outcome)) (exec (.recv .block .fresh) (st .check [] [f1])) =
    some ([], .completed (.received (some message1) false)) := by decide +kernel
/-- V-Q-10. -/
theorem test_recv_stopped : view State.outcome (exec (.recv .timeout .fresh) (st .stopped [] [])) =
    some (.completed (.received none false)) := by decide
/-- V-Q-1. -/
theorem test_push : view State.q (exec (.qPush f1) (st .check [] [])) = some [f1] := by decide
/-- V-Q-3. -/
theorem test_push_blocked : view (fun t => (t.q, t.outcome)) (exec (.qPush f6) (st .check [] [f1, f2, f3, f4, f5])) =
    some ([f1, f2, f3, f4, f5], .blocked .queueFull) := by decide
/-- F3 on the wire after a byte that waits. -/
theorem test_frame13_arrives : view State.rx (exec (.frame13 f3.fields) { st .read [] [] with rx := [0x5A] }) =
    some (0x5A :: f3.bytes) := by decide

/-! ## Words as the host places them: the very next step runs them -/

theorem test_step_start : view tuple (step (State.reset.withFetchWord 8 0x1)) = some ⟨.check, true, 0, 0, 0, false⟩ := by
  decide
theorem test_step_update : view State.outcome (step (State.reset.withFetchWord 8 0xE)) = some (.completed (.crc 0)) := by
  decide +kernel
theorem test_step_shed : stops (step (State.reset.withFetchWord 8 0xC)) = some (.inl .bufNoValue) := by decide
theorem test_step_micro_alone : stops (step { State.reset with script := [0x0C] }) = some (.inr .microOperation) := by decide
theorem test_step_frame : view State.rx (step (State.reset.withFetchWord 104 0xA8000000000000000000000000)) =
    some [0xA8, 0, 0, 0, 0, 0, 0, 0, 0, 0, 0, 0, 0] := by decide

/-- R133 on program P2: the stream of a stray byte, F1 and F2. -/
theorem test_deframe_p2 : deframe ffff [] (0x5A :: streamOf [f1, f2]) = ⟨[f1, f2], [], 1⟩ := by decide +kernel
/-- R68: the classes of a valid frame, of S2's window and of P2's first window. -/
theorem test_classify : [f1, badCrc, stray].map (classify ffff) = [.valid, .checksumMismatch, .markerMismatch] := by
  decide +kernel
/-- R29: the status the HOST reads. -/
theorem test_status : (st .deliver f1.bytes [f2]).status = (.deliver, false, 0, 1) := by decide
/-- R160, R162, R166, R167: the kinds that outcomes name. -/
theorem test_kinds : [OpOutcome.completed (.encoded f1 true), .completed .empty, .blocked .queueFull,
      .completed (.sent .writeError true), .completed (.error (.markerMismatch f1)), .completed .unit].map OpOutcome.kind =
    [some .payloadTooLong, some .empty, some .queueFull, some .writeError, some .markerMismatch, none] := by decide

/-! ## Witnesses: for each statement with hypotheses, states and operands that meet all of them, at the ends of their ranges -/

theorem witness_crcTableHoldsUpdatesOfZero : 0 < 256 ∧ 255 < 256 := by decide
theorem witness_crcIsAffine : f1.span.length = f2.span.length := by decide
theorem witness_crcSeesEverySingleBit : 0 < 8 ∧ 7 < 8 := by decide
theorem witness_crcInitMismatchRejectsEveryFrame : crcOk { zero with crcInit := .ffff } f1 = true := by decide +kernel
/-- F1 for `CRC_INIT = 0xFFFF`, and F2 with bytes `57 E0` for `0x0000`. -/
theorem witness_validFrameCarriesMarker :
    frameValid ffff f1 = true ∧ frameValid zero { f2 with b11 := 0x57, b12 := 0xE0 } = true := by decide +kernel
theorem witness_frameFieldsRoundTrip : markerOk f1 = true ∧ markerOk badCrc = true := by decide
theorem witness_frameMatchUnderMask : 0 < 2 ^ 104 ∧ 2 ^ 104 - 1 < 2 ^ 104 := by decide

/-- For `EncodeReturnsFrame`, `SendWritesOneFrame`, and the second clause of `IdentifierRangeIsTested`. -/
theorem witness_legalIdentifier : (0x000 : Word) ≤ 0x7FF ∧ (0x7FF : Word) ≤ 0x7FF := by decide
theorem witness_identifierRangeIsTested : (0x7FF : Word) < 0x800 ∧ (0x7FF : Word) < 0xFFFF := by decide
theorem witness_longPayloadIsTruncated : (0x7FF : Word) ≤ 0x7FF ∧ 8 < [1, 2, 3, 4, 5, 6, 7, 8, 9].length := by decide
theorem witness_encodedFramesAreValid : ∃ t, exec (.encodeMsg 0x7FF true true []) State.reset = .next t ∧
    t.outcome = .completed (.encoded f2 false) :=
  ⟨{ State.reset with outcome := .completed (.encoded f2 false) }, by
    have h : encodeMessage State.reset.params 0x7FF true true [] = .ok (f2, false) := by decide +kernel
    simp only [exec, execEncode, h]
    rfl, rfl⟩
theorem witness_decodeChecksCrcThenMarker :
    crcOk State.reset.params badCrc = false ∧
    (crcOk State.reset.params badMarker = true ∧ markerOk badMarker = false) ∧
    (crcOk State.reset.params f1 = true ∧ markerOk f1 = true) := by decide +kernel
theorem witness_decodeOfEncodeReturnsMessage :
    (0x7FF : Word) ≤ 0x7FF ∧ message1.payload.length ≤ 8 ∧ message1.payload.length = 8 := by decide
/-- The first and the last bit of F1. -/
theorem witness_singleBitFlipFailsDecode :
    frameValid State.reset.params f1 = true ∧
    (f1.bytes = [] ++ f1.b0 :: f1.bytes.tail ∧ ({ f1 with b0 := 0xA9 } : Frame).bytes = [] ++ (f1.b0 ^^^ (1#8 <<< 0)) :: f1.bytes.tail) ∧
    (f1.bytes = f1.bytes.take 12 ++ f1.b12 :: [] ∧
      ({ f1 with b12 := 0x21 } : Frame).bytes = f1.bytes.take 12 ++ (f1.b12 ^^^ (1#8 <<< 7)) :: []) := by decide +kernel

theorem witness_resetGivesResetValues : State.reset.phase ≠ .read ∧ (st .read (f1.bytes.take 3) []).phase = .read := by
  decide
theorem witness_startOnlyFromIdle : State.reset.phase = .idle ∧ (st .stopped [] []).phase ≠ .idle := by decide
/-- A `STOP` meets the premises (R197). -/
theorem witness_onlyPopFreesBlockedDelivery :
    ∃ t, (st .deliver f6.bytes [f1, f2, f3, f4, f5]).phase = .deliver ∧ (st .deliver f6.bytes [f1, f2, f3, f4, f5]).qlen = 5 ∧
      Instr.stop.isMicro = false ∧ (∀ mode caller, Instr.stop ≠ .qPop mode caller) ∧
      (∀ mode caller, Instr.stop ≠ .recv mode caller) ∧ Instr.stop ≠ .reset ∧
      exec .stop (st .deliver f6.bytes [f1, f2, f3, f4, f5]) = .next t :=
  ⟨_, rfl, rfl, rfl, fun _ _ => nofun, fun _ _ => nofun, nofun, rfl⟩

theorem witness_checkTestsRunThenOpen :
    ({ st .check [] [] with run := false }.phase = .check ∧ { st .check [] [] with run := false }.run = false) ∧
    ((st .check [] []).phase = .check ∧ (st .check [] []).run = true) ∧ State.reset.phase ≠ .check := by decide
theorem witness_emptyOrFailedReadRetries : (st .read [] []).phase = .read := by decide
/-- One byte where one is asked for, and thirteen where thirteen are. -/
theorem witness_readAppendsStreamBytes :
    ({ st .read (f1.bytes.take 12) [] with rx := [0xA1] }.phase = .read ∧ 1 ≤ 1 ∧
      1 ≤ 13 - { st .read (f1.bytes.take 12) [] with rx := [0xA1] }.len ∧
      1 ≤ { st .read (f1.bytes.take 12) [] with rx := [0xA1] }.rx.length) ∧
    ({ st .read [] [] with rx := f1.bytes }.phase = .read ∧ 1 ≤ 13 ∧ 13 ≤ 13 - { st .read [] [] with rx := f1.bytes }.len ∧
      13 ≤ { st .read [] [] with rx := f1.bytes }.rx.length) := by decide
/-- The three clauses: two bytes where one is asked for; one byte from an empty stream; another phase. -/
theorem witness_readNeverExceedsRequest :
    ((st .read (f1.bytes.take 12) []).phase = .read ∧ 1 ≤ 2 ∧ 13 - (st .read (f1.bytes.take 12) []).len < 2) ∧
    ((st .read (f1.bytes.take 12) []).phase = .read ∧ 1 ≤ 1 ∧ 1 ≤ 13 - (st .read (f1.bytes.take 12) []).len ∧
      (st .read (f1.bytes.take 12) []).rx.length < 1) ∧ (st .check [] []).phase ≠ .read := by decide
theorem witness_validateShedsOneByteOrAccepts :
    ((st .validate stray.bytes []).phase = .validate ∧ (st .validate stray.bytes []).buf = stray.bytes ∧
      markerOk stray = false) ∧
    ((st .validate badCrc.bytes []).phase = .validate ∧ (st .validate badCrc.bytes []).buf = badCrc.bytes ∧
      markerOk badCrc = true ∧ crcOk (st .validate badCrc.bytes []).params badCrc = false) ∧
    ((st .validate f1.bytes []).phase = .validate ∧ (st .validate f1.bytes []).buf = f1.bytes ∧
      frameValid (st .validate f1.bytes []).params f1 = true) := by decide +kernel
theorem witness_shedEvictsFrontByte : (st .validate stray.bytes []).len = 13 ∧ (st .check (stray.bytes.take 12) []).len ≠ 13 := by
  decide
theorem witness_deliverPushesWindowOrBlocks :
    ((st .deliver f5.bytes [f1, f2, f3, f4]).phase = .deliver ∧ (st .deliver f5.bytes [f1, f2, f3, f4]).buf = f5.bytes ∧
      (st .deliver f5.bytes [f1, f2, f3, f4]).qlen < 5) ∧
    ((st .deliver f6.bytes [f1, f2, f3, f4, f5]).phase = .deliver ∧ (st .deliver f6.bytes [f1, f2, f3, f4, f5]).qlen = 5) := by
  decide
/-- States no run reaches: a phase that needs a whole window, and twelve bytes. -/
theorem witness_byteWithoutValueFaults :
    ((st .validate (f1.bytes.take 12) []).len ≠ 13 ∧ (st .validate (f1.bytes.take 12) []).phase = .validate) ∧
    ((st .deliver (f1.bytes.take 12) []).len ≠ 13 ∧ (st .deliver (f1.bytes.take 12) []).phase = .deliver ∧
      (st .deliver (f1.bytes.take 12) []).qlen < 5) ∧ State.reset.len ≠ 13 := by decide

/-- For `PhaseMovesByTable`, `EachFieldHasItsWriters` and the first clause of `ForwardProgress`: a read that fills the window. -/
theorem witness_operationThatCompletes :
    ∃ t, (Instr.syncRead (.rx 1)).isMicro = false ∧
      exec (.syncRead (.rx 1)) { st .read (f1.bytes.take 12) [] with rx := [0xA1] } = .next t ∧
      { st .read (f1.bytes.take 12) [] with rx := [0xA1] }.phase ≠ .validate ∧ t.phase = .validate :=
  ⟨_, rfl, rfl, by decide, by decide⟩
/-- For the clauses of `EachFieldHasItsWriters`: `RUN` and `PHASE` by a start, `Q` by a pop, `TCLOSED` by a check, `BUF` by a read. -/
theorem witness_eachFieldHasItsWriters :
    (∃ t, exec .start State.reset = .next t ∧ t.run ≠ State.reset.run ∧ t.phase ≠ State.reset.phase) ∧
    (∃ t, exec (.qPop .block .fresh) (st .check [] [f1]) = .next t ∧ t.q ≠ (st .check [] [f1]).q) ∧
    (∃ t, exec (.syncCheck .closed) (st .check [] []) = .next t ∧ t.tclosed ≠ (st .check [] []).tclosed) ∧
    (∃ t, exec (.syncRead (.rx 1)) { st .read [] [] with rx := [0xA8] } = .next t ∧ t.buf ≠ []) :=
  ⟨⟨_, rfl, by decide, by decide⟩, ⟨_, rfl, by decide⟩, ⟨_, rfl, by decide⟩, ⟨_, rfl, by decide⟩⟩
/-- For the other clauses of `ForwardProgress`: a rejected window, and a delivery. -/
theorem witness_forwardProgress :
    (∃ t, exec .syncValidate (st .validate stray.bytes []) = .next t ∧ t.phase = .check) ∧
    (∃ t, exec .syncDeliver (st .deliver f1.bytes []) = .next t ∧ t.phase = .check) :=
  ⟨⟨_, rfl, rfl⟩, ⟨_, rfl, rfl⟩⟩
theorem witness_syncAndDecodeAcceptTheSameWindows :
    (st .validate badMarker.bytes []).phase = .validate ∧ (st .validate badMarker.bytes []).buf = badMarker.bytes := by decide
/-- A pop of a queued frame after the loop has exited (V-Q-8). -/
theorem witness_stoppedIsTerminal :
    ∃ t, (st .stopped [] [f3]).phase = .stopped ∧ (Instr.qPop .block .fresh).isMicro = false ∧
      Instr.qPop .block .fresh ≠ .reset ∧ exec (.qPop .block .fresh) (st .stopped [] [f3]) = .next t :=
  ⟨_, rfl, rfl, nofun, rfl⟩

theorem witness_pushAppendsOrBlocks : (st .check [] [f1, f2, f3, f4]).qlen < 5 ∧ (st .check [] [f1, f2, f3, f4, f5]).qlen = 5 := by
  decide
theorem witness_popReturnsOldestFrame :
    (st .check [] [f1, f2]).q = f1 :: [f2] ∧ ((st .stopped [] []).q = [] ∧ (st .stopped [] []).phase = .stopped) := by decide
theorem witness_popOnEmptyQueueWaits : (st .read [] []).q = [] ∧ (st .read [] []).phase ≠ .stopped := by decide
theorem witness_pendingPopGetsItsChance :
    (PendingCall.mk .pop .block ∈ { st .check [] [f1] with pendingPops := [⟨.pop, .block⟩] }.pendingPops ∧
      { st .check [] [f1] with pendingPops := [⟨.pop, .block⟩] }.q = f1 :: []) ∧
    (PendingCall.mk .pop .block ∈ { st .stopped [] [] with pendingPops := [⟨.pop, .block⟩] }.pendingPops ∧
      { st .stopped [] [] with pendingPops := [⟨.pop, .block⟩] }.q = [] ∧
      { st .stopped [] [] with pendingPops := [⟨.pop, .block⟩] }.phase = .stopped) ∧
    (PendingCall.mk .pop .block ∈ { st .read [] [] with pendingPops := [⟨.pop, .block⟩] }.pendingPops ∧
      { st .read [] [] with pendingPops := [⟨.pop, .block⟩] }.q = [] ∧
      { st .read [] [] with pendingPops := [⟨.pop, .block⟩] }.phase ≠ .stopped) ∧
    (PendingCall.mk .pop .timeout ∈ { st .read [] [] with pendingPops := [⟨.pop, .timeout⟩] }.pendingPops ∧
      { st .read [] [] with pendingPops := [⟨.pop, .timeout⟩] }.q = [] ∧
      { st .read [] [] with pendingPops := [⟨.pop, .timeout⟩] }.phase ≠ .stopped) ∧
    PendingCall.mk .pop .timeout ∉ (st .read [] []).pendingPops := by decide
/-- New calls: a frame, and none on a stopped loop. -/
theorem witness_recvDecodesOldestFrame :
    ((st .check [] [f1, f2]).q = f1 :: [f2] ∧ frameValid (st .check [] [f1, f2]).params f1 = true) ∧
    ((st .stopped [] []).q = [] ∧ (st .stopped [] []).phase = .stopped) := by decide +kernel
/-- `RecvDecodesOldestFrame` for pending calls: a frame; none on a stopped loop; none otherwise, in either mode; no such call. -/
theorem witness_recvDecodesOldestFrame_pending :
    ({ st .check [] [f1] with pendingPops := [⟨.recv, .block⟩] }.q = f1 :: [] ∧
      frameValid { st .check [] [f1] with pendingPops := [⟨.recv, .block⟩] }.params f1 = true ∧
      PendingCall.mk .recv .block ∈ { st .check [] [f1] with pendingPops := [⟨.recv, .block⟩] }.pendingPops) ∧
    (PendingCall.mk .recv .timeout ∈ { st .stopped [] [] with pendingPops := [⟨.recv, .timeout⟩] }.pendingPops ∧
      { st .stopped [] [] with pendingPops := [⟨.recv, .timeout⟩] }.q = [] ∧
      { st .stopped [] [] with pendingPops := [⟨.recv, .timeout⟩] }.phase = .stopped) ∧
    (PendingCall.mk .recv .block ∈ { st .read [] [] with pendingPops := [⟨.recv, .timeout⟩, ⟨.recv, .block⟩] }.pendingPops ∧
      PendingCall.mk .recv .timeout ∈ { st .read [] [] with pendingPops := [⟨.recv, .timeout⟩, ⟨.recv, .block⟩] }.pendingPops ∧
      { st .read [] [] with pendingPops := [⟨.recv, .timeout⟩, ⟨.recv, .block⟩] }.q = [] ∧
      { st .read [] [] with pendingPops := [⟨.recv, .timeout⟩, ⟨.recv, .block⟩] }.phase ≠ .stopped) ∧
    PendingCall.mk .recv .block ∉ { st .read [] [] with pendingPops := [⟨.pop, .block⟩] }.pendingPops := by decide +kernel

theorem witness_hostCannotObserveBuffer :
    ∃ t, (Instr.qPop .block .fresh).isMicro = false ∧ Instr.qPop .block .fresh ≠ .reset ∧
      (∀ a, Instr.qPop .block .fresh ≠ .syncCheck a) ∧ (∀ a, Instr.qPop .block .fresh ≠ .syncRead a) ∧
      Instr.qPop .block .fresh ≠ .syncValidate ∧ Instr.qPop .block .fresh ≠ .syncDeliver ∧
      exec (.qPop .block .fresh) (st .read (f2.bytes.take 7) [f1]) = .next t :=
  ⟨_, rfl, nofun, fun _ => nofun, fun _ => nofun, nofun, nofun, rfl⟩
theorem witness_diagnosticsHaveNoInfluence :
    (∃ t, exec .syncValidate (st .validate stray.bytes []) = .next t) ∧
    exec .syncShed State.reset = .fault .bufNoValue ∧ exec .start (st .check [] []) = .refused .startNotIdle :=
  ⟨⟨_, rfl⟩, rfl, rfl⟩
/-- The three clauses of the rule: twelve bytes; a window that is a frame; one that is not, twelve of whose bytes are in the buffer. -/
theorem witness_deframeMeetsItsEquations :
    (([] : List Byte).length ≤ 12 ∧ ([] : List Byte).length + (f1.bytes.take 12).length < 13) ∧
    (([] : List Byte).length ≤ 12 ∧ [] ++ f1.bytes = f1.bytes ++ [] ∧ frameValid ffff f1 = true) ∧
    ((stray.bytes.take 12).length ≤ 12 ∧ stray.bytes.take 12 ++ [0x09, 0xA1] = stray.bytes ++ [0xA1] ∧
      frameValid ffff stray = false) := by decide +kernel
/-- Program P2: `5A`, then F1 and F2. -/
theorem witness_resyncShedsOnlyTheStrayBytes :
    ([] : List Byte).length ≤ 12 ∧ [f1, f2] ≠ [] ∧ (∀ f ∈ [f1, f2], frameValid ffff f = true) ∧
    [] ++ (0x5A :: streamOf [f1, f2]) = [0x5A] ++ streamOf [f1, f2] ∧
    (∀ k < [(0x5A : Byte)].length, ∀ w : Frame, w.bytes = (([] ++ (0x5A :: streamOf [f1, f2])).drop k).take 13 →
      frameValid ffff w = false) := by
  refine ⟨by decide, by decide, by decide +kernel, rfl, fun k hk w hw => ?_⟩
  have hk0 : k = 0 := by simpa using hk
  subst hk0
  have hs : w = stray := Frame.bytes_injective (hw.trans rfl)
  rw [hs]
  decide +kernel
/-- Program P6's first cuts, from a stream that holds F1. -/
theorem witness_loopDeliversDeframe :
    { st .check [] [] with rx := f1.bytes }.phase = .check ∧ { st .check [] [] with rx := f1.bytes }.run = true ∧
    { st .check [] [] with rx := f1.bytes }.q = [] ∧ { st .check [] [] with rx := f1.bytes }.len ≤ 12 ∧
    (serve [some 0, some 5, none, some 13] { st .check [] [] with rx := f1.bytes }).map Prod.fst = some [f1] := by
  decide +kernel
theorem witness_encodedMessageIsReceived :
    (0x7FF : Word) ≤ 0x7FF ∧ message1.payload.length ≤ 8 ∧ (st .check [] []).phase = .check ∧ (st .check [] []).run = true ∧
    (st .check [] []).buf = [] ∧ (st .check [] []).rx = [] ∧ (st .check [] []).q = [] := by decide

/-- An operation; a micro-operation inside its enclosing operation; and one outside. -/
theorem witness_stepRunsScheduledOperation :
    (Instr.start.wellFormed = true ∧ { State.reset with script := [0x01, 0x02] }.script = encode .start ++ [0x02] ∧
      Instr.start.isMicro = false) ∧
    (Instr.syncShed.wellFormed = true ∧ { State.reset with script := [0x0C], enclosed := true }.script = encode .syncShed ++ [] ∧
      { State.reset with script := [0x0C], enclosed := true }.enclosed = true) ∧
    (Instr.syncShed.isMicro = true ∧ { State.reset with script := [0x0C] }.script = encode .syncShed ++ [] ∧
      { State.reset with script := [0x0C] }.enclosed = false) := by decide
theorem witness_stepStopsWithoutOperation :
    State.reset.script = [] ∧
    ({ State.reset with script := [0x10] }.script ≠ [] ∧
      decode { State.reset with script := [0x10] }.script = .error (.unknownLabel 0x10)) := by decide
theorem witness_stepKeepsInvariant :
    ∃ t, { State.reset with script := [0x01] }.Inv ∧ step { State.reset with script := [0x01] } = .next t :=
  ⟨_, by constructor <;> decide, rfl⟩
theorem witness_decodeOfEncodeIsIdentity :
    (Instr.syncRead (.rx 0)).wellFormed = true ∧ (Instr.syncRead (.rx 13)).wellFormed = true ∧
    (Instr.frame13 f1.fields).wellFormed = true := by decide
theorem witness_encodeOfDecodeIsIdentity : decode [0x0A, 13, 0xEE] = .ok (.syncRead (.rx 13), [0xEE]) := by decide

end Sys2Proof.Tests
end

section
/-! PROOFS. The places of the marker, the identifier and the control fields in the bytes of a frame (R61, R62, R63). -/

namespace Sys2Proof.Encoding

open Sys2Proof.Machine

/-! ## Bit fields as numbers -/

theorem toNat_extractLsb'_eq {n : Nat} (x : BitVec n) (start len : Nat) :
    (x.extractLsb' start len).toNat = x.toNat / 2 ^ start % 2 ^ len := by
  rw [BitVec.extractLsb'_toNat, Nat.shiftRight_eq_div_pow]

/-! ## The marker -/

theorem markerOk_iff (w : Frame) : markerOk w = true ↔ w.b0.extractLsb' 3 5 = Config.marker := beq_iff_eq

/-- The mask `0xF8` keeps the marker's five bits in their place and clears the identifier's three. -/
theorem and_markerMask_eq (b : Byte) : b &&& 0xF8 = b.extractLsb' 3 5 ++ 0#3 := by
  apply BitVec.eq_of_getLsbD_eq
  intro i hi
  rw [BitVec.getLsbD_and, BitVec.getLsbD_append, BitVec.getLsbD_extractLsb']
  interval_cases i <;> simp

theorem toNat_div_of_marker {w : Frame} (h : markerOk w = true) : w.b0.toNat / 8 = 21 := by
  have hfield := congrArg BitVec.toNat ((markerOk_iff w).mp h)
  rw [toNat_extractLsb'_eq, show Config.marker.toNat = 21 from rfl] at hfield
  have := w.b0.isLt
  omega

/-- Settles O10: a valid frame has the marker, and the mask and the eight values are two readings of those five bits. -/
theorem validFrameCarriesMarker : Obligations.ValidFrameCarriesMarker := by
  intro p w hvalid
  obtain ⟨hmarker, -⟩ := (frameValid_iff p w).mp hvalid
  have hfield := (markerOk_iff w).mp hmarker
  have hdiv := toNat_div_of_marker hmarker
  refine ⟨hfield, ?_, by omega, by omega⟩
  rw [and_markerMask_eq, hfield]
  rfl

/-! ## The identifier -/

theorem fields_id_toNat (w : Frame) : w.fields.id.toNat = w.b0.toNat % 8 * 256 + w.b1.toNat := by
  calc w.fields.id.toNat
    _ = (w.b0.extractLsb' 0 3).toNat * 2 ^ 8 + w.b1.toNat := toNat_append_eq _ _
    _ = w.b0.toNat % 8 * 256 + w.b1.toNat := by simp

theorem toFrame_b0_toNat (f : FrameFields) : f.toFrame.b0.toNat = 0xA8 + f.id.toNat / 256 := by
  have hid := f.id.isLt
  calc f.toFrame.b0.toNat
    _ = Config.marker.toNat * 2 ^ 3 + (f.id.extractLsb' 8 3).toNat := toNat_append_eq _ _
    _ = 0xA8 + f.id.toNat / 256 % 8 := by rw [toNat_extractLsb'_eq]; rfl
    _ = 0xA8 + f.id.toNat / 256 := by omega

theorem toFrame_b1_toNat (f : FrameFields) : f.toFrame.b1.toNat = f.id.toNat % 256 := by
  calc f.toFrame.b1.toNat
    _ = f.id.toNat / 2 ^ 0 % 2 ^ 8 := toNat_extractLsb'_eq _ _ _
    _ = f.id.toNat % 256 := by simp

/-- Settles O11, one lemma per place. -/
theorem identifierPlaces : Obligations.IdentifierPlaces :=
  ⟨fields_id_toNat, fun f => ⟨toFrame_b0_toNat f, toFrame_b1_toNat f⟩⟩

/-! ## The control byte -/

theorem toFrame_b2_toNat (f : FrameFields) :
    f.toFrame.b2.toNat = f.r.toNat * 128 + f.e.toNat * 64 + f.rsvd.toNat * 16 + f.dlc.toNat := by
  have hb2 : f.toFrame.b2 = BitVec.ofBool f.r ++ BitVec.ofBool f.e ++ f.rsvd ++ f.dlc := rfl
  rw [hb2, toNat_append_eq, toNat_append_eq, toNat_append_eq, BitVec.toNat_ofBool, BitVec.toNat_ofBool]
  omega

/-- The four fields of the control byte cover all its bits (R63), so that their weighted sum is the byte. -/
theorem b2_toNat_eq_fields (w : Frame) : w.b2.toNat =
    w.fields.r.toNat * 128 + w.fields.e.toNat * 64 + w.fields.rsvd.toNat * 16 + w.fields.dlc.toNat := by
  have hr : w.fields.r.toNat = w.b2.toNat / 2 ^ 7 % 2 := Nat.toNat_testBit _ _
  have he : w.fields.e.toNat = w.b2.toNat / 2 ^ 6 % 2 := Nat.toNat_testBit _ _
  have hrsvd : w.fields.rsvd.toNat = w.b2.toNat / 2 ^ 4 % 2 ^ 2 := toNat_extractLsb'_eq _ _ _
  have hdlc : w.fields.dlc.toNat = w.b2.toNat / 2 ^ 0 % 2 ^ 4 := toNat_extractLsb'_eq _ _ _
  have := w.b2.isLt
  omega

/-- Settles O12: from bytes to fields and from fields to bytes. -/
theorem controlBytePlaces : Obligations.ControlBytePlaces := ⟨b2_toNat_eq_fields, toFrame_b2_toNat⟩

end Sys2Proof.Encoding
end

section
/-! PROOFS. The test of the identifier in `ENCODE` and `SEND` (R101). -/

namespace Sys2Proof.Encoding

open Sys2Proof.Machine

theorem exec_encodeMsg_of_error {s : State} {identifier : Word} {r e : Bool} {payload : List Byte} {why : Raised}
    (h : encodeMessage s.params identifier r e payload = .error why) :
    exec (.encodeMsg identifier r e payload) s = .next (s.raiseError why) := by
  simp only [exec, execEncode, h]

theorem exec_encodeMsg_of_ok {s : State} {identifier : Word} {r e : Bool} {payload : List Byte} {f : Frame}
    {truncated : Bool} (h : encodeMessage s.params identifier r e payload = .ok (f, truncated)) :
    exec (.encodeMsg identifier r e payload) s = .next (s.done (.encoded f truncated)) := by
  simp only [exec, execEncode, h]

/-- `SEND` writes nothing where its `ENCODE` raises (R108). -/
theorem exec_send_of_error {s : State} {identifier : Word} {r e : Bool} {payload : List Byte} {why : Raised}
    (a : WriteAnswer) (h : encodeMessage s.params identifier r e payload = .error why) :
    exec (.send identifier r e a payload) s = .next (s.raiseError why) := by
  simp only [exec, execSend, h]

/-- Settles O17: `encodeMessage` decides by the identifier alone, and both operations end as it does. -/
theorem identifierRangeIsTested : Obligations.IdentifierRangeIsTested := by
  refine ⟨fun s identifier r e a payload habove => ?_, fun s identifier r e payload hlegal => ?_⟩
  · have hraises := encodeMessage_of_lt s.params habove r e payload
    exact ⟨exec_encodeMsg_of_error hraises, exec_send_of_error a hraises⟩
  · exact ⟨_, _, exec_encodeMsg_of_ok (encodeMessage_of_le s.params hlegal r e payload)⟩

end Sys2Proof.Encoding
end

section
/-! PROOFS. What an operation that completes or blocks has done to the state, once for every operation: one constructor for each
way a meaning can end. -/

namespace Sys2Proof.Machine

@[simp] theorem State.done_len (s : State) (r : OpResult) : (s.done r).len = s.len := rfl
@[simp] theorem State.block_len (s : State) (on : BlockedOn) : (s.block on).len = s.len := rfl
@[simp] theorem State.setPhase_len (s : State) (p : Phase) : (s.setPhase p).len = s.len := rfl
@[simp] theorem State.emit_len (s : State) (ev : DiagEvent) : (s.emit ev).len = s.len := rfl
@[simp] theorem State.deliver_len (s : State) (w : Frame) : (s.deliver w).len = 0 := rfl
@[simp] theorem State.shed_len (s : State) : s.shed.len = s.len - 1 := by simp [State.len]

theorem State.fill_len {s : State} {k : Nat} (h : k ≤ s.rx.length) : (s.fill k).len = s.len + k := State.len_append_of_le h

/-- The operations that touch no field of R20 and none of the pending calls: the codec, the CRC Engine, a frame on the wire. -/
inductive IsQuiet : Instr → Prop
  | frame13 (f : FrameFields) : IsQuiet (.frame13 f)
  | crc16 (span : List Byte) : IsQuiet (.crc16 span)
  | encodeMsg (identifier : Word) (r e : Bool) (payload : List Byte) : IsQuiet (.encodeMsg identifier r e payload)
  | decodeFrame (w : Frame) : IsQuiet (.decodeFrame w)
  | send (identifier : Word) (r e : Bool) (a : WriteAnswer) (payload : List Byte) : IsQuiet (.send identifier r e a payload)
  | crc16Update (crc : Word) (b : Byte) : IsQuiet (.crc16Update crc b)

/-- The operations that take a frame from the queue. -/
inductive IsPop : Instr → Prop
  | qPop (mode : PopMode) (caller : Caller) : IsPop (.qPop mode caller)
  | recv (mode : PopMode) (caller : Caller) : IsPop (.recv mode caller)

/-- `Effect s i t`: operation `i` in state `s` may answer the next state `t`. -/
inductive Effect (s : State) : Instr → State → Prop
  | quiet {i : Instr} (hi : IsQuiet i) (rx : List Byte) (tx : List TxWrite) (o : OpOutcome) :
      Effect s i { s with rx := rx, tx := tx, outcome := o }
  | reset : Effect s .reset (s.abandonRead.clear.done .unit)
  | start (hp : s.phase = .idle) : Effect s .start (((s.setRun true).setPhase .check).done .unit)
  | stop : Effect s .stop ((s.setRun false).done .unit)
  | pop {i : Instr} (hi : IsPop i) {q : List Frame} (hq : q = s.q ∨ ∃ f, s.q = f :: q)
      (calls : List PendingCall) (o : OpOutcome) (n : Nat) :
      Effect s i { s with q := q, pendingPops := calls, outcome := o, draws := n }
  | checkStopped (a : OpenAnswer) (hp : s.phase = .check) (hr : s.run = false) :
      Effect s (.syncCheck a) ((s.setPhase .stopped).done .unit)
  | checkClosed (hp : s.phase = .check) (hr : s.run = true) :
      Effect s (.syncCheck .closed) ((s.latchClosed.setPhase .stopped).done .unit)
  | checkOpen (hp : s.phase = .check) (hr : s.run = true) : Effect s (.syncCheck .isOpen) ((s.setPhase .read).done .unit)
  | readRetry {a : ReadAnswer} (ha : a = .rx 0 ∨ a = .err) (hp : s.phase = .read) :
      Effect s (.syncRead a) ((s.setPhase .check).done .unit)
  | readOutstanding (k : Nat) (hp : s.phase = .read) : Effect s (.syncRead (.rx k)) (s.block .readOutstanding)
  | readFill {k : Nat} (hp : s.phase = .read) (hk : 1 ≤ k) (hreq : k ≤ s.request) (hrx : k ≤ s.rx.length) :
      Effect s (.syncRead (.rx k)) ((s.fill k).done .unit)
  | reject {w : Frame} (hp : s.phase = .validate) (hw : s.window = some w) (hv : frameValid s.params w = false)
      (kind : ErrorKind) : Effect s .syncValidate ((s.emit (.reject w kind)).shed.done .unit)
  | accept {w : Frame} (hp : s.phase = .validate) (hw : s.window = some w) (hv : frameValid s.params w = true) :
      Effect s .syncValidate (((s.emit (.accept w)).setPhase .deliver).done .unit)
  | deliver {w : Frame} (hp : s.phase = .deliver) (hroom : s.qlen < 5) (hw : s.window = some w) :
      Effect s .syncDeliver ((s.deliver w).done .unit)
  | deliverBlocked (hp : s.phase = .deliver) (hfull : 5 ≤ s.qlen) : Effect s .syncDeliver (s.block .queueFull)
  | shed (hl : s.len = 13) : Effect s .syncShed (s.shed.done .unit)
  | push {f : Frame} (hroom : s.qlen < 5) : Effect s (.qPush f) ((s.push f).done .unit)
  | pushBlocked {f : Frame} (hfull : 5 ≤ s.qlen) : Effect s (.qPush f) (s.block .queueFull)

/-- Every next state `exec` answers is one of these. -/
theorem exec_effect {s t : State} {i : Instr} (h : exec i s = .next t) : Effect s i t := by
  cases i with
  | frame13 f => cases execFrame13_next h; exact .quiet (.frame13 ..) _ _ _
  | reset => cases execReset_next h; exact .reset
  | start => obtain ⟨hp, rfl⟩ := execStart_next h; exact .start hp
  | stop => cases execStop_next h; exact .stop
  | crc16 span => cases h; exact .quiet (.crc16 ..) _ _ _
  | encodeMsg identifier r e payload => obtain ⟨o, rfl⟩ := execEncode_next h; exact .quiet (.encodeMsg ..) _ _ _
  | decodeFrame w => obtain ⟨o, rfl⟩ := execDecode_next h; exact .quiet (.decodeFrame ..) _ _ _
  | qPop mode caller => obtain ⟨q, calls, o, n, rfl, hq⟩ := execQPop_next h; exact .pop (.qPop ..) hq _ _ _
  | send identifier r e a payload => obtain ⟨o, writes, rfl⟩ := execSend_next h; exact .quiet (.send ..) _ _ _
  | recv mode caller => obtain ⟨q, calls, o, n, rfl, hq⟩ := execRecv_next h; exact .pop (.recv ..) hq _ _ _
  | syncCheck a =>
    obtain ⟨hp, ⟨hr, rfl⟩ | ⟨hr, rfl, rfl⟩ | ⟨hr, rfl, rfl⟩⟩ := execSyncCheck_next h
    · exact .checkStopped a hp hr
    · exact .checkClosed hp hr
    · exact .checkOpen hp hr
  | syncRead a =>
    obtain ⟨hp, ⟨ha, rfl⟩ | ⟨k, rfl, hk, hreq, ⟨-, rfl⟩ | ⟨hrx, rfl⟩⟩⟩ := execSyncRead_next h
    · exact .readRetry ha.symm hp
    · exact .readOutstanding k hp
    · exact .readFill hp hk hreq hrx
  | syncValidate =>
    obtain ⟨hp, w, hw, ⟨hv, kind, rfl⟩ | ⟨hv, rfl⟩⟩ := execSyncValidate_next h
    · exact .reject hp hw hv kind
    · exact .accept hp hw hv
  | syncShed => obtain ⟨hl, rfl⟩ := execSyncShed_next h; exact .shed hl
  | syncDeliver =>
    obtain ⟨hp, ⟨hroom, w, hw, rfl⟩ | ⟨hfull, rfl⟩⟩ := execSyncDeliver_next h
    · exact .deliver hp hroom hw
    · exact .deliverBlocked hp hfull
  | crc16Update crc b => cases h; exact .quiet (.crc16Update ..) _ _ _
  | qPush f =>
    obtain ⟨hroom, rfl⟩ | ⟨hfull, rfl⟩ := execQPush_next h
    · exact .push hroom
    · exact .pushBlocked hfull

end Sys2Proof.Machine
end

section
/-! PROOFS. The invariant holds at reset and every step keeps it. One lemma for each change an operation can make to the fields the
invariant speaks of. -/

namespace Sys2Proof.Machine

variable {s : State}

/-- Before a window is full: the buffer is not a whole window. -/
theorem State.Inv.len_ne (h : s.Inv) (hp : s.phase = .idle ∨ s.phase = .check ∨ s.phase = .read) :
    s.len ≠ Config.frameLen := by
  rw [Ne, h.full_iff]
  rcases hp with hp | hp | hp <;> simp [hp]

/-- Outside `STOPPED` the transport has not been seen closed. -/
theorem State.Inv.tclosed_eq_false (h : s.Inv) (hp : s.phase ≠ .stopped) : s.tclosed = false :=
  Bool.eq_false_iff.mpr fun hc => hp (h.closed_stopped hc)

theorem State.Inv.reset (h : s.Inv) : (s.abandonRead.clear.done .unit).Inv where
  len_le := Nat.zero_le _
  full_iff := by simp [State.len, Config.frameLen]
  deliver_valid := by simp
  qlen_le := Nat.zero_le _
  q_valid := by simp
  cnt_le := Nat.zero_le _
  idle_clean := by simp
  closed_stopped := by simp
  not_enclosed := by simpa using h.not_enclosed

/-- `RUN` is written: to 0 in any phase, to anything outside `IDLE`. -/
theorem State.Inv.setRun (h : s.Inv) (v : Bool) (hv : s.phase = .idle → v = false) : (s.setRun v).Inv :=
  { h with
    idle_clean := fun hp =>
      have ⟨hbuf, hcnt, _, hq⟩ := h.idle_clean hp
      ⟨hbuf, hcnt, hv hp, hq⟩ }

/-- The loop moves on while the window is not full. -/
theorem State.Inv.setPhase (h : s.Inv) (hs : s.phase = .idle ∨ s.phase = .check ∨ s.phase = .read) {p : Phase}
    (hp : p = .check ∨ p = .read ∨ p = .stopped) : (s.setPhase p).Inv := by
  have hl := h.len_ne hs
  have hopen : s.tclosed = false := h.tclosed_eq_false (by rcases hs with hs | hs | hs <;> simp [hs])
  refine { h with full_iff := ?_, deliver_valid := ?_, idle_clean := ?_, closed_stopped := by simp [hopen] }
  all_goals rcases hp with rfl | rfl | rfl <;> simp [hl]

/-- The transport is seen closed: the latch and the exit are one step (R122). -/
theorem State.Inv.latchClosed (h : s.Inv) (hp : s.phase = .check) : (s.latchClosed.setPhase .stopped).Inv :=
  { h.setPhase (.inr (.inl hp)) (.inr (.inr rfl)) with closed_stopped := fun _ => rfl }

theorem State.Inv.fill (h : s.Inv) (hp : s.phase = .read) {k : Nat} (hreq : k ≤ s.request) (hrx : k ≤ s.rx.length) :
    (s.fill k).Inv := by
  have hlen : (s.fill k).len = s.len + k := State.fill_len hrx
  have hle := h.len_le
  have hopen : s.tclosed = false := h.tclosed_eq_false (by simp [hp])
  unfold State.request at hreq
  refine { h with
    len_le := by omega, full_iff := ?_, deliver_valid := ?_, idle_clean := ?_
    closed_stopped := by simp [hopen] }
  all_goals rw [State.fill_phase, State.len_append_of_le hrx]
  · rw [hlen]
    split <;> simp [*]
  · split <;> simp
  · split <;> simp

theorem State.Inv.emit (h : s.Inv) (ev : DiagEvent) : (s.emit ev).Inv := { h with }

/-- A shed leaves twelve bytes, and the counter saturates at its cap (R125). -/
theorem State.Inv.shed (h : s.Inv) (hp : s.phase = .validate) : s.shed.Inv := by
  have hfull : s.len = 13 := h.full_iff.mpr (.inl hp)
  have hlen : s.shed.len = 12 := by simp [hfull]
  exact { h with
    len_le := by simp [hlen, Config.frameLen]
    full_iff := by simp [hlen, Config.frameLen]
    deliver_valid := by simp
    cnt_le := Nat.min_le_right _ _
    idle_clean := by simp
    closed_stopped := by simp [h.tclosed_eq_false (by simp [hp])] }

/-- A window that passed both tests waits in `DELIVER`. -/
theorem State.Inv.accept (h : s.Inv) (hp : s.phase = .validate) {w : Frame} (hw : s.window = some w)
    (hv : frameValid s.params w = true) : (s.setPhase .deliver).Inv :=
  { h with
    full_iff := by simpa using h.full_iff.mpr (.inl hp)
    deliver_valid := fun _ w' hw' => by rw [Option.some.inj (hw'.symm.trans hw)]; exact hv
    idle_clean := by simp
    closed_stopped := by simp [h.tclosed_eq_false (by simp [hp])] }

/-- A delivery queues the valid window it waited with, and the room that was tested is enough (R126). -/
theorem State.Inv.deliver (h : s.Inv) (hp : s.phase = .deliver) (hroom : s.qlen < 5) {w : Frame} (hw : s.window = some w) :
    (s.deliver w).Inv := by
  have hv := h.deliver_valid hp w hw
  exact { h with
    len_le := Nat.zero_le _
    full_iff := by simp [Config.frameLen]
    deliver_valid := by simp
    qlen_le := by simpa [State.qlen, Config.qCap] using hroom
    q_valid := by simpa [or_imp, forall_and] using ⟨h.q_valid, hv⟩
    cnt_le := Nat.zero_le _
    idle_clean := by simp
    closed_stopped := by simp [h.tclosed_eq_false (by simp [hp])] }

/-- A pop leaves a suffix of the queue. -/
theorem State.Inv.pop (h : s.Inv) {q : List Frame} (hq : q = s.q ∨ ∃ f, s.q = f :: q) : State.Inv { s with q := q } := by
  rcases hq with rfl | ⟨f, hf⟩
  · exact h
  · have hle : s.q.length ≤ Config.qCap := h.qlen_le
    have hvalid := h.q_valid
    simp only [hf, List.length_cons, List.mem_cons, forall_eq_or_imp] at hle hvalid
    exact { h with
      qlen_le := Nat.le_of_succ_le hle
      q_valid := hvalid.2
      idle_clean := fun hp => by
        obtain ⟨-, -, -, hempty⟩ := h.idle_clean hp
        simp [hf] at hempty }

/-- Whatever an operation of the agents does keeps the invariant. A micro-operation alone need not: it is part of a step. -/
theorem Effect.inv {t : State} {i : Instr} (he : Effect s i t) (h : s.Inv) (hi : i.isMicro = false) : t.Inv := by
  cases he with
  | quiet _ rx tx o => exact { h with }
  | reset => exact h.reset
  | start hp => exact { (h.setPhase (.inl hp) (.inl rfl)).setRun true (by simp) with }
  | stop => exact { h.setRun false fun _ => rfl with }
  | pop _ hq calls o n => exact { h.pop hq with }
  | checkStopped a hp hr => exact { h.setPhase (.inr (.inl hp)) (.inr (.inr rfl)) with }
  | checkClosed hp hr => exact { h.latchClosed hp with }
  | checkOpen hp hr => exact { h.setPhase (.inr (.inl hp)) (.inr (.inl rfl)) with }
  | readRetry ha hp => exact { h.setPhase (.inr (.inr hp)) (.inl rfl) with }
  | readOutstanding k hp => exact { h with }
  | readFill hp hk hreq hrx => exact { h.fill hp hreq hrx with }
  | reject hp hw hv kind => exact { (h.emit (.reject _ kind)).shed hp with }
  | @accept w hp hw hv => exact { (h.emit (.accept w)).accept hp hw hv with }
  | deliver hp hroom hw => exact { h.deliver hp hroom hw with }
  | deliverBlocked hp hfull => exact { h with }
  | shed hl | push hroom | pushBlocked hfull => cases hi

/-- Settles O56: the fetch takes no micro-operation in a state with the invariant, and every other operation keeps it. -/
theorem stepKeepsInvariant : Obligations.StepKeepsInvariant := by
  intro s t h hstep
  obtain ⟨i, u, hfetch, hexec⟩ := step_next hstep
  obtain ⟨rest, -, -, hmicro, rfl⟩ := fetch_ok hfetch
  have hu : State.Inv { s with script := rest, enclosed := false } := { h with not_enclosed := rfl }
  exact (exec_effect hexec).inv hu (hmicro.resolve_right (by simp [h.not_enclosed]))

/-- Settles O57: every field is empty, clear or 0. -/
theorem resetMeetsInvariant : Obligations.ResetMeetsInvariant := by
  constructor <;> decide

end Sys2Proof.Machine
end

section
/-! PROOFS. The fields and the bytes of a frame determine each other (R60, R66). -/

namespace Sys2Proof.Encoding

open Sys2Proof.Machine

theorem bool_eq_of_toNat_eq : ∀ {a b : Bool}, a.toNat = b.toNat → a = b := by decide

/-- Equal weighted sums of the control fields have equal parts: each field fits its place (R63). -/
theorem controlFields_eq {f g : FrameFields}
    (h : f.r.toNat * 128 + f.e.toNat * 64 + f.rsvd.toNat * 16 + f.dlc.toNat =
      g.r.toNat * 128 + g.e.toNat * 64 + g.rsvd.toNat * 16 + g.dlc.toNat) :
    f.r = g.r ∧ f.e = g.e ∧ f.rsvd = g.rsvd ∧ f.dlc = g.dlc := by
  have := f.r.toNat_lt
  have := g.r.toNat_lt
  have := f.e.toNat_lt
  have := g.e.toNat_lt
  have := f.rsvd.isLt
  have := g.rsvd.isLt
  have := f.dlc.isLt
  have := g.dlc.isLt
  exact ⟨bool_eq_of_toNat_eq (by omega), bool_eq_of_toNat_eq (by omega), BitVec.eq_of_toNat_eq (by omega),
    BitVec.eq_of_toNat_eq (by omega)⟩

@[simp] theorem fields_toFrame (f : FrameFields) : f.toFrame.fields = f := by
  have hid : f.toFrame.fields.id = f.id := by
    apply BitVec.eq_of_toNat_eq
    rw [fields_id_toNat, toFrame_b0_toNat, toFrame_b1_toNat]
    have := f.id.isLt
    omega
  obtain ⟨hr, he, hrsvd, hdlc⟩ :=
    controlFields_eq ((b2_toNat_eq_fields f.toFrame).symm.trans (toFrame_b2_toNat f))
  calc f.toFrame.fields
    _ = { f with
          id := f.toFrame.fields.id, r := f.toFrame.fields.r, e := f.toFrame.fields.e
          rsvd := f.toFrame.fields.rsvd, dlc := f.toFrame.fields.dlc } := rfl
    _ = f := by rw [hid, hr, he, hrsvd, hdlc]

@[simp] theorem markerOk_toFrame (f : FrameFields) : markerOk f.toFrame = true := by
  rw [markerOk_iff]
  apply BitVec.eq_of_toNat_eq
  rw [toNat_extractLsb'_eq, toFrame_b0_toNat]
  have := f.id.isLt
  have hm : Config.marker.toNat = 21 := rfl
  omega

theorem toFrame_fields {w : Frame} (h : markerOk w = true) : w.fields.toFrame = w := by
  have hdiv := toNat_div_of_marker h
  have h0 : w.fields.toFrame.b0 = w.b0 := by
    apply BitVec.eq_of_toNat_eq
    rw [toFrame_b0_toNat, fields_id_toNat]
    have := w.b1.isLt
    omega
  have h1 : w.fields.toFrame.b1 = w.b1 := by
    apply BitVec.eq_of_toNat_eq
    rw [toFrame_b1_toNat, fields_id_toNat]
    have := w.b1.isLt
    omega
  have h2 : w.fields.toFrame.b2 = w.b2 :=
    BitVec.eq_of_toNat_eq ((toFrame_b2_toNat w.fields).trans (b2_toNat_eq_fields w).symm)
  calc w.fields.toFrame
    _ = { w with b0 := w.fields.toFrame.b0, b1 := w.fields.toFrame.b1, b2 := w.fields.toFrame.b2 } := rfl
    _ = w := by rw [h0, h1, h2]

/-- Settles O13. -/
theorem frameFieldsRoundTrip : Obligations.FrameFieldsRoundTrip :=
  ⟨fun f => ⟨fields_toFrame f, markerOk_toFrame f⟩, fun _ => toFrame_fields⟩

end Sys2Proof.Encoding
end

section
/-! PROOFS. Decoding an encoded operation gives it back, and what decodes was encoded (R60, R67). -/

namespace Sys2Proof.Encoding

open Sys2Proof.Machine

@[simp] theorem ok_bind {ε α β : Type} (a : α) (f : α → Except ε β) : (Except.ok a >>= f) = f a := rfl

theorem bind_eq_ok {ε α β : Type} {x : Except ε α} {f : α → Except ε β} {b : β} (h : x >>= f = .ok b) :
    ∃ a, x = .ok a ∧ f a = .ok b := by
  cases x with
  | ok a => exact ⟨a, rfl, h⟩
  | error why => cases h

@[simp] theorem takeByte_cons (b : Byte) (rest : List Byte) : takeByte (b :: rest) = .ok (b, rest) := rfl

theorem takeChoice_writeAnswer (a : WriteAnswer) (rest : List Byte) :
    takeChoice WriteAnswer.success .writeError (a.byte :: rest) = .ok (a, rest) := by
  cases a <;> rfl

/-- A wire frame decodes to its fields. -/
theorem decode_frame {w : Frame} (h : markerOk w = true) (rest : List Byte) :
    decode (w.bytes ++ rest) = .ok (.frame13 w.fields, rest) := by
  have hb : decode (w.bytes ++ rest) = _ := decode_of_marker h _
  rw [hb]
  rfl

/-- A label decodes as its operands do. -/
theorem decode_label {b : Byte} (hb : b.toNat < 16) {bs rest : List Byte} {i : Instr}
    (h : decodeOperands b.toNat bs = .ok (i, rest)) : decode (b :: bs) = .ok (i, rest) := by
  have hm : markerByte b = false := by
    rw [Bool.eq_false_iff]
    intro hmark
    have := toNat_div_of_marker (w := ⟨b, 0, 0, 0, 0, 0, 0, 0, 0, 0, 0, 0, 0⟩) hmark
    simp only at this
    omega
  rw [decode_of_label hm hb, h]

/-- Settles O58: the label selects the operand forms the encoder wrote, and each form is taken back. -/
theorem decodeOfEncodeIsIdentity : Obligations.DecodeOfEncodeIsIdentity := by
  intro i rest hwf
  cases i with
  | frame13 f =>
    have h := decode_frame (markerOk_toFrame f) rest
    rwa [fields_toFrame] at h
  | reset | start | stop | syncValidate | syncShed | syncDeliver => exact decode_label (by decide) rfl
  | crc16 span =>
    refine decode_label (b := 0x3) (by decide) ?_
    simp [decodeOperands, takeSpan_encodeSpan]
  | encodeMsg identifier r e payload =>
    refine decode_label (b := 0x4) (by decide) ?_
    simp [decodeOperands, takeWord_bytes, takeFlags_byte, takeSpan_encodeSpan]
  | decodeFrame w =>
    refine decode_label (b := 0x5) (by decide) ?_
    simp [decodeOperands, takeFrame_bytes]
  | qPop mode caller | recv mode caller => cases mode <;> cases caller <;> exact decode_label (by decide) rfl
  | syncCheck a => cases a <;> exact decode_label (by decide) rfl
  | send identifier r e a payload =>
    refine decode_label (b := 0x7) (by decide) ?_
    simp [decodeOperands, takeWord_bytes, takeFlags_byte, takeChoice_writeAnswer, takeSpan_encodeSpan]
  | syncRead a =>
    refine decode_label (b := 0xA) (by decide) ?_
    simp [decodeOperands, takeReadAnswer_byte a _ hwf]
  | crc16Update crc b =>
    refine decode_label (b := 0xE) (by decide) ?_
    simp [decodeOperands, takeWord_bytes, takeByte_cons]
  | qPush f =>
    refine decode_label (b := 0xF) (by decide) ?_
    simp [decodeOperands, takeFrame_bytes]

theorem takeChoice_ok_byte {α : Type} {zero one a : α} (byte : α → Byte) (hzero : byte zero = 0) (hone : byte one = 1)
    {bs rest : List Byte} (h : takeChoice zero one bs = .ok (a, rest)) : bs = byte a :: rest := by
  obtain ⟨rfl, rfl⟩ | ⟨rfl, rfl⟩ := takeChoice_ok h
  · rw [hzero]
  · rw [hone]

/-- What a label and its operands decode to is well-formed, and encodes to them. -/
theorem decodeOperands_ok {label : Nat} {bs rest : List Byte} {i : Instr} (h : decodeOperands label bs = .ok (i, rest)) :
    i.wellFormed = true ∧ encode i ++ rest = BitVec.ofNat 8 label :: bs := by
  unfold decodeOperands at h
  split at h
  case h_1 | h_2 | h_3 | h_12 | h_13 | h_14 => cases h; exact ⟨rfl, rfl⟩
  case h_4 =>
    obtain ⟨⟨span, bs₁⟩, hspan, h⟩ := bind_eq_ok h
    cases h
    rw [takeSpan_ok hspan]
    exact ⟨rfl, rfl⟩
  case h_5 =>
    obtain ⟨⟨identifier, bs₁⟩, hword, h⟩ := bind_eq_ok h
    obtain ⟨⟨⟨r, e⟩, bs₂⟩, hflags, h⟩ := bind_eq_ok h
    obtain ⟨⟨payload, bs₃⟩, hspan, h⟩ := bind_eq_ok h
    cases h
    rw [takeWord_ok hword, takeFlags_ok hflags, takeSpan_ok hspan]
    exact ⟨rfl, rfl⟩
  case h_6 =>
    obtain ⟨⟨w, bs₁⟩, hframe, h⟩ := bind_eq_ok h
    cases h
    rw [takeFrame_ok hframe]
    exact ⟨rfl, rfl⟩
  case h_7 | h_9 =>
    obtain ⟨⟨mode, bs₁⟩, hmode, h⟩ := bind_eq_ok h
    obtain ⟨⟨caller, bs₂⟩, hcaller, h⟩ := bind_eq_ok h
    cases h
    rw [takeChoice_ok_byte PopMode.byte rfl rfl hmode, takeChoice_ok_byte Caller.byte rfl rfl hcaller]
    exact ⟨rfl, rfl⟩
  case h_8 =>
    obtain ⟨⟨identifier, bs₁⟩, hword, h⟩ := bind_eq_ok h
    obtain ⟨⟨⟨r, e⟩, bs₂⟩, hflags, h⟩ := bind_eq_ok h
    obtain ⟨⟨answer, bs₃⟩, hanswer, h⟩ := bind_eq_ok h
    obtain ⟨⟨payload, bs₄⟩, hspan, h⟩ := bind_eq_ok h
    cases h
    rw [takeWord_ok hword, takeFlags_ok hflags, takeChoice_ok_byte WriteAnswer.byte rfl rfl hanswer, takeSpan_ok hspan]
    exact ⟨rfl, rfl⟩
  case h_10 =>
    obtain ⟨⟨answer, bs₁⟩, hanswer, h⟩ := bind_eq_ok h
    cases h
    rw [takeChoice_ok_byte OpenAnswer.byte rfl rfl hanswer]
    exact ⟨rfl, rfl⟩
  case h_11 =>
    obtain ⟨⟨answer, bs₁⟩, hanswer, h⟩ := bind_eq_ok h
    cases h
    obtain ⟨hwf, rfl⟩ := takeReadAnswer_ok hanswer
    exact ⟨hwf, rfl⟩
  case h_15 =>
    obtain ⟨⟨crc, bs₁⟩, hword, h⟩ := bind_eq_ok h
    obtain ⟨⟨b, bs₂⟩, hbyte, h⟩ := bind_eq_ok h
    cases h
    rw [takeWord_ok hword, takeByte_ok hbyte]
    exact ⟨rfl, rfl⟩
  case h_16 =>
    obtain ⟨⟨f, bs₁⟩, hframe, h⟩ := bind_eq_ok h
    cases h
    rw [takeFrame_ok hframe]
    exact ⟨rfl, rfl⟩
  case h_17 => cases h

/-- Settles O59: a wire frame with the marker is the packing of its fields; a label and its operands encode to themselves. -/
theorem encodeOfDecodeIsIdentity : Obligations.EncodeOfDecodeIsIdentity := by
  intro bs rest i h
  obtain ⟨w, hmarker, rfl, rfl⟩ | ⟨b, tail, -, -, rfl, hoperands⟩ := decode_ok h
  · refine ⟨rfl, ?_⟩
    rw [encode, toFrame_fields hmarker]
  · obtain ⟨hwf, hencode⟩ := decodeOperands_ok hoperands
    exact ⟨hwf, by simpa using hencode⟩

end Sys2Proof.Encoding
end

section
/-! PROOFS. Words of the opcode table (R66, R67), and the step that takes an encoded operation from the script. -/

namespace Sys2Proof.Encoding

open Sys2Proof.Machine

/-- The mask of R66 keeps bits 99 to 103 in their place. -/
theorem and_frameMask_eq (n : Nat) : n &&& 0xF8000000000000000000000000 = (n >>> 99 % 2 ^ 5) <<< 99 := by
  rw [show 0xF8000000000000000000000000 = (2 ^ 5 - 1) <<< 99 from rfl]
  apply Nat.eq_of_testBit_eq
  intro i
  rw [Nat.testBit_and, Nat.testBit_shiftLeft, Nat.testBit_shiftLeft, Nat.testBit_mod_two_pow, Nat.testBit_shiftRight,
    Nat.testBit_two_pow_sub_one]
  by_cases hi : 99 ≤ i
  · simp [hi, Bool.and_comm]
  · simp [hi]

theorem tableBytes_length (k n : Nat) : (tableBytes k n).length = k := by
  induction k with
  | zero => rfl
  | succ k ih => simp [tableBytes, ih]

/-- A table word of 104 bits, as 13 bytes, has the marker exactly when it matches under the mask (R66). -/
theorem markerOk_tableWord_iff {n : Nat} (hn : n < 2 ^ 104) {w : Frame} (hw : w.bytes = tableBytes 13 n) :
    markerOk w = true ↔ n &&& 0xF8000000000000000000000000 = 0xA8000000000000000000000000 := by
  have hb : w.b0 = BitVec.ofNat 8 (n >>> 96) := congrArg (·.headD 0) hw
  have hm : Config.marker.toNat = 21 := rfl
  rw [and_frameMask_eq, markerOk_iff, ← BitVec.toNat_inj, toNat_extractLsb'_eq, hb, hm, BitVec.toNat_ofNat,
    Nat.shiftRight_eq_div_pow, Nat.shiftRight_eq_div_pow, Nat.shiftLeft_eq]
  omega

theorem decodeTableWord_eq_some {nbits n : Nat} {i : Instr} :
    decodeTableWord nbits n = some i ↔ ∃ rest, decode (tableBytes (nbits / 8) n ++ zeroOperands) = .ok (i, rest) := by
  unfold decodeTableWord
  cases decode (tableBytes (nbits / 8) n ++ zeroOperands) with
  | ok v => simp [Prod.ext_iff]
  | error why => simp

/-- No label decodes to a wire frame (R67). -/
theorem ne_frame13_of_decodeOperands {label : Nat} (hl : label < 16) {bs rest : List Byte} {i : Instr}
    (h : decodeOperands label bs = .ok (i, rest)) (f : FrameFields) : i ≠ .frame13 f := by
  rintro rfl
  obtain ⟨-, hencode⟩ := decodeOperands_ok h
  have hb : f.toFrame.b0 = BitVec.ofNat 8 label := congrArg (·.headD 0) hencode
  have hdiv := toNat_div_of_marker (markerOk_toFrame f)
  rw [hb, BitVec.toNat_ofNat] at hdiv
  omega

/-- Settles O14: 13 bytes decode to a wire frame exactly when the first carries the marker. -/
theorem frameMatchUnderMask : Obligations.FrameMatchUnderMask := by
  intro n hn
  obtain ⟨w, -, hw⟩ := frameOfBytes_of_length (tableBytes_length 13 n)
  rw [← markerOk_tableWord_iff hn hw]
  simp only [decodeTableWord_eq_some, ← hw]
  constructor
  · rintro ⟨f, rest, hdecode⟩
    obtain ⟨v, hmarker, hbytes, -⟩ | ⟨b, tail, -, hb, -, hoperands⟩ := decode_ok hdecode
    · have hb0 : w.b0 = v.b0 := congrArg (·.headD 0) hbytes
      rwa [markerOk, hb0]
    · exact absurd rfl (ne_frame13_of_decodeOperands hb hoperands f)
  · intro hmarker
    exact ⟨w.fields, zeroOperands, decode_frame hmarker zeroOperands⟩

/-- Settles O60. -/
theorem writtenWordsDecode : Obligations.WrittenWordsDecode := by
  unfold Obligations.WrittenWordsDecode
  decide

/-- Settles O54: the fetch decodes what was encoded, and takes it unless it is a micro-operation outside its operation. -/
theorem stepRunsScheduledOperation : Obligations.StepRunsScheduledOperation := by
  intro s i rest hwf hscript
  have hdecode : decode s.script = .ok (i, rest) := hscript ▸ decodeOfEncodeIsIdentity i rest hwf
  refine ⟨fun hmicro => ?_, fun hmicro hopen => ?_⟩
  · simp only [step, fetch_of_decode hdecode hmicro]
  · simp only [step, fetch_of_micro hdecode hmicro hopen]

/-- Settles O55, by the two ways the fetch fails before it has an operation. -/
theorem stepStopsWithoutOperation : Obligations.StepStopsWithoutOperation := by
  intro s
  refine ⟨fun hscript => ?_, fun why hscript hdecode => ?_⟩
  · simp only [step, fetch, hscript, if_true]
  · simp only [step, fetch, hscript, hdecode, if_false]

end Sys2Proof.Encoding
end

section
/-! PROOFS. The CRC Engine (R82 to R89, R198): the table-driven form, the fold over a span, and what the fold's linearity gives. -/

namespace Sys2Proof.Checksum

open Sys2Proof.Machine

/-! ## The table-driven form -/

theorem crcTable_eq_map : crcTable = (List.range 256).map fun i => crcUpdate 0 (BitVec.ofNat 8 i) := by
  decide +kernel

/-- Settles O1. -/
theorem crcTableHoldsUpdatesOfZero : Obligations.CrcTableHoldsUpdatesOfZero := by
  refine ⟨by rw [crcTable_eq_map]; simp, fun i hi => ?_⟩
  simp [crcTable_eq_map, hi]

theorem crcTable_getD (b : Byte) : crcTable.getD b.toNat 0 = crcUpdate 0 b := by
  obtain ⟨-, hentry⟩ := crcTableHoldsUpdatesOfZero
  have h := hentry b.toNat b.isLt
  rw [List.getD_eq_getElem?_getD, h]
  simp

/-- A register is its lower byte and its upper byte in place. -/
theorem wordOfBytes_eq_xor (lo hi : Byte) : wordOfBytes lo hi = lo.setWidth 16 ^^^ hi.setWidth 16 <<< 8 := by
  show (hi ++ lo : BitVec (8 + 8)) = _
  apply BitVec.eq_of_getLsbD_eq
  intro i hi'
  rw [BitVec.getLsbD_append, BitVec.getLsbD_xor, BitVec.getLsbD_shiftLeft, BitVec.getLsbD_setWidth,
    BitVec.getLsbD_setWidth]
  by_cases h : i < 8
  · simp [h, hi']
  · have h16 : i - 8 < 16 := by omega
    simp [h, hi', h16, BitVec.getLsbD_of_ge lo i (by omega)]

/-- Eight rounds shift an upper byte down: they find no bit set to fold back. -/
theorem crcRounds_eight_upper (b : Byte) : crcRounds 8 (b.setWidth 16 <<< 8) = b.setWidth 16 := by
  rw [crcRounds_shift 8 _ (by intro i hi; simp [hi])]
  apply BitVec.eq_of_getLsbD_eq
  intro i hi
  rw [BitVec.getLsbD_ushiftRight, BitVec.getLsbD_shiftLeft, BitVec.getLsbD_setWidth, BitVec.getLsbD_setWidth]
  by_cases h : i < 8
  · simp [hi, (by omega : 8 + i < 16)]
  · simp [hi, BitVec.getLsbD_of_ge b i (by omega)]

/-- Eight rounds of a register: its upper byte shifted down, and over it the update of 0 by its lower byte. -/
theorem crcRounds_eight (x : Word) : crcRounds 8 x = (highByte x).setWidth 16 ^^^ crcUpdate 0 (lowByte x) := by
  calc crcRounds 8 x
    _ = crcRounds 8 ((lowByte x).setWidth 16 ^^^ (highByte x).setWidth 16 <<< 8) := by
      rw [← wordOfBytes_eq_xor, wordOfBytes_low_high]
    _ = crcRounds 8 ((lowByte x).setWidth 16) ^^^ (highByte x).setWidth 16 := by
      rw [crcRounds_xor, crcRounds_eight_upper]
    _ = (highByte x).setWidth 16 ^^^ crcUpdate 0 (lowByte x) := by simp [crcUpdate, BitVec.xor_comm]

/-- A byte does not reach the upper half of a register. -/
theorem highByte_xor_setWidth (crc : Word) (b : Byte) : (highByte (crc ^^^ b.setWidth 16)).setWidth 16 = crc >>> 8 := by
  apply BitVec.eq_of_getLsbD_eq
  intro i hi
  rw [BitVec.getLsbD_setWidth, highByte, BitVec.getLsbD_extractLsb', BitVec.getLsbD_ushiftRight, BitVec.getLsbD_xor,
    BitVec.getLsbD_setWidth, BitVec.getLsbD_of_ge b (8 + i) (by omega)]
  by_cases h : i < 8
  · simp [h, hi]
  · simp [h, BitVec.getLsbD_of_ge crc (8 + i) (by omega)]

/-- Settles O2: by linearity only the lower byte of `crc xor b` needs its rounds, and the table holds those. -/
theorem crcFormsAgree : Obligations.CrcFormsAgree := by
  intro crc b
  rw [crcUpdate, crcRounds_eight, highByte_xor_setWidth, crcUpdateTable, crcTable_getD]
  rfl

/-- Settles O3. -/
theorem crcUpdateReturnsTableForm : Obligations.CrcUpdateReturnsTableForm := by
  intro s crc b
  rw [← crcFormsAgree]
  rfl

/-- Settles O4: the CRC of a span is the fold from `CRC_INIT`, and the two forms of the update are one function. -/
theorem crcSpanReturnsFold : Obligations.CrcSpanReturnsFold := by
  intro s span
  have hforms : crcUpdateTable = crcUpdate := funext₂ fun crc b => (crcFormsAgree crc b).symm
  have hfold : crc16 s.params span = span.foldl crcUpdateTable (crcInitValue s.params.crcInit) := by
    rw [crc16_eq_fold, hforms]
    rfl
  show Host.Outcome.next (s.done (.crc (crc16 s.params span))) = _
  rw [hfold]
  rfl

/-! ## What the fold's structure gives -/

/-- Settles O5. -/
theorem crcIsIncremental : Obligations.CrcIsIncremental := by
  intro p s t
  rw [crc16_eq_fold, crc16_eq_fold, crcFold_append]
  rfl

theorem crcRounds_add (m n : Nat) (x : Word) : crcRounds (m + n) x = crcRounds n (crcRounds m x) := by
  induction m generalizing x with
  | zero => rw [Nat.zero_add]; rfl
  | succ m ih => rw [Nat.succ_add]; exact ih (crcRound x)

/-- Two updates are sixteen rounds of the register against the number of the two bytes, low byte first. -/
theorem crcFold_pair (c : Word) (lo hi : Byte) : crcFold c [lo, hi] = crcRounds 16 (c ^^^ wordOfBytes lo hi) := by
  calc crcFold c [lo, hi]
    _ = crcRounds 8 (crcRounds 8 (c ^^^ lo.setWidth 16) ^^^ hi.setWidth 16) := rfl
    _ = crcRounds 8 (crcRounds 8 ((c ^^^ lo.setWidth 16) ^^^ hi.setWidth 16 <<< 8)) := by
      rw [crcRounds_xor 8 _ (hi.setWidth 16 <<< 8), crcRounds_eight_upper]
    _ = crcRounds 16 (c ^^^ wordOfBytes lo hi) := by
      rw [wordOfBytes_eq_xor, ← BitVec.xor_assoc, crcRounds_add 8 8]

/-- The residue: exactly the register's own bytes, low byte first, bring it to 0 (R89). -/
theorem crcFold_pair_eq_zero_iff (c : Word) (lo hi : Byte) : crcFold c [lo, hi] = 0 ↔ c = wordOfBytes lo hi := by
  rw [crcFold_pair]
  constructor
  · intro h
    exact BitVec.xor_eq_zero_iff.mp (crcRounds_eq_zero _ _ h)
  · rintro rfl
    rw [BitVec.xor_self]
    exact crcRounds_zero 16

theorem crcOk_iff_crc16_bytes (p : Params) (w : Frame) : crcOk p w = true ↔ crc16 p w.bytes = 0 := by
  rw [crcOk_iff, Frame.bytes_eq_span, crcIsIncremental]
  show _ ↔ crcFold _ [w.b11, w.b12] = 0
  rw [crcFold_pair_eq_zero_iff]
  constructor
  · rintro ⟨hlo, hhi⟩
    rw [hlo, hhi, wordOfBytes_low_high]
  · intro h
    rw [h, lowByte_wordOfBytes, highByte_wordOfBytes]
    exact ⟨rfl, rfl⟩

/-- Settles O6. -/
theorem crcResidueIsZero : Obligations.CrcResidueIsZero := by
  refine ⟨fun p s => ?_, crcOk_iff_crc16_bytes⟩
  rw [crcIsIncremental]
  exact (crcFold_pair_eq_zero_iff _ _ _).mpr (wordOfBytes_low_high _).symm

/-- Settles O7: the two `CRC_INIT`s cancel. -/
theorem crcIsAffine : Obligations.CrcIsAffine := by
  intro p s t hlen
  rw [crc16_eq_fold, crc16_eq_fold, crc16_eq_fold, ← crcFold_xor _ _ _ _ hlen, BitVec.xor_self]
  rfl

theorem xor_oneBit_ne (b : Byte) {k : Nat} (hk : k < 8) : b ≠ b ^^^ (1#8 <<< k) := by
  intro h
  have hbit := congrArg (BitVec.getLsbD · k) h
  simp [hk] at hbit

/-- Settles O8: the registers differ after the byte that differs, and equal bytes never bring them together again. -/
theorem crcSeesEverySingleBit : Obligations.CrcSeesEverySingleBit := by
  intro p s t b k hk heq
  simp only [crc16_eq_fold, crcFold_append, crcFold_cons] at heq
  exact xor_oneBit_ne b hk (crcUpdate_right_injective _ _ _ (crcFold_injective _ _ _ heq))

/-- Settles O9: both folds of the 13 bytes would be 0, and a fold is injective in the register it starts from. -/
theorem crcInitMismatchRejectsEveryFrame : Obligations.CrcInitMismatchRejectsEveryFrame := by
  intro p w hffff
  rw [Bool.eq_false_iff]
  intro hzero
  rw [crcOk_iff_crc16_bytes, crc16_eq_fold] at hffff hzero
  have hinit : (0xFFFF : Word) = 0x0000 := crcFold_injective _ _ _ (hffff.trans hzero.symm)
  exact absurd hinit (by decide)

end Sys2Proof.Checksum
end

section
/-! PROOFS. The Frame Codec (R69, R100 to R108): what a sealed frame decodes to, what `ENCODE` packs, what `DECODE` tests. -/

namespace Sys2Proof.Encoding

open Sys2Proof.Machine Sys2Proof.Checksum

/-! ## DECODE -/

theorem exec_decodeFrame_of_ok {s : State} {w : Frame} {m : Message} (h : decodeMessage s.params w = .ok m) :
    exec (.decodeFrame w) s = .next (s.done (.decoded m)) := by
  simp only [exec, execDecode, h]

theorem exec_decodeFrame_of_error {s : State} {w : Frame} {why : Raised} (h : decodeMessage s.params w = .error why) :
    exec (.decodeFrame w) s = .next (s.raiseError why) := by
  simp only [exec, execDecode, h]

theorem exec_decodeFrame_of_valid {s : State} {w : Frame} (h : frameValid s.params w = true) :
    exec (.decodeFrame w) s = .next (s.done (.decoded (messageOf w))) :=
  exec_decodeFrame_of_ok (decodeMessage_of_valid h)

/-- The CRC is tested first (R104). -/
theorem exec_decodeFrame_of_crc {s : State} {w : Frame} (h : crcOk s.params w = false) :
    exec (.decodeFrame w) s = .next (s.raiseError (.checksumMismatch w)) :=
  exec_decodeFrame_of_error (by simp [decodeMessage, h])

theorem exec_decodeFrame_of_marker {s : State} {w : Frame} (hcrc : crcOk s.params w = true) (hmarker : markerOk w = false) :
    exec (.decodeFrame w) s = .next (s.raiseError (.markerMismatch w)) :=
  exec_decodeFrame_of_error (by simp [decodeMessage, hcrc, hmarker])

theorem fields_dlc_toNat (w : Frame) : w.fields.dlc.toNat = w.b2.toNat % 16 :=
  (toNat_extractLsb'_eq w.b2 0 4).trans (by simp)

theorem fields_rsvd_toNat (w : Frame) : w.fields.rsvd.toNat = w.b2.toNat / 16 % 4 := toNat_extractLsb'_eq w.b2 4 2

theorem fields_r_eq (w : Frame) : w.fields.r = decide (128 ≤ w.b2.toNat) := by
  have hbit : w.fields.r = decide (w.b2.toNat / 2 ^ 7 % 2 = 1) := Nat.testBit_eq_decide_div_mod_eq
  have := w.b2.isLt
  rw [hbit, decide_eq_decide]
  omega

theorem fields_e_eq (w : Frame) : w.fields.e = decide (64 ≤ w.b2.toNat % 128) := by
  have hbit : w.fields.e = decide (w.b2.toNat / 2 ^ 6 % 2 = 1) := Nat.testBit_eq_decide_div_mod_eq
  rw [hbit, decide_eq_decide]
  omega

/-- The payload field has 8 bytes, so the code alone cuts it (R70). -/
theorem payloadOf_eq_take (w : Frame) : payloadOf w = (payloadField w).take w.fields.dlc.toNat := by
  have hlen : (payloadField w).length = 8 := rfl
  rw [payloadOf, List.take_eq_take_iff, hlen, Nat.min_assoc]
  rfl

theorem fmtWarnFlag_eq (w : Frame) : fmtWarnFlag w = decide (w.fields.rsvd ≠ 0 ∨ 8 < w.fields.dlc.toNat) :=
  (Bool.decide_or _ _).symm

/-- Settles O20. -/
theorem decodeChecksCrcThenMarker : Obligations.DecodeChecksCrcThenMarker := by
  intro s w
  refine ⟨exec_decodeFrame_of_crc, exec_decodeFrame_of_marker, fun hcrc hmarker => ?_⟩
  refine ⟨messageOf w, exec_decodeFrame_of_valid ((frameValid_iff _ _).mpr ⟨hmarker, hcrc⟩), fields_id_toNat w,
    fields_r_eq w, fields_e_eq w, fields_dlc_toNat w, ?_, ?_⟩
  · rw [← fields_dlc_toNat]
    exact payloadOf_eq_take w
  · rw [← fields_dlc_toNat, ← fields_rsvd_toNat]
    exact (fmtWarnFlag_eq w).trans (by simp [BitVec.toNat_eq])

/-! ## A sealed frame -/

theorem sealFrame_fields (p : Params) (w : Frame) :
    (sealFrame p w).fields = { w.fields with
      crcLo := lowByte (Machine.crc16 p w.span), crcHi := highByte (Machine.crc16 p w.span) } := rfl

@[simp] theorem frameValid_sealFrame_toFrame (p : Params) (f : FrameFields) :
    frameValid p (sealFrame p f.toFrame) = true := by
  simp [frameValid]

/-- The message of a sealed frame is that of the fields packed. -/
theorem messageOf_sealFrame_toFrame (p : Params) (f : FrameFields) :
    messageOf (sealFrame p f.toFrame) =
      { identifier := f.id, isRemote := f.r, isExtended := f.e, dlc := f.dlc
        payload := (payloadField f.toFrame).take (min f.dlc.toNat 8)
        fmtWarn := decide (f.rsvd ≠ 0 ∨ 8 < f.dlc.toNat) } := by
  have hfields := sealFrame_fields p f.toFrame
  rw [fields_toFrame] at hfields
  simp only [messageOf, payloadOf, fmtWarnFlag_eq, hfields]
  rfl

/-- Settles O15: no test looks at the fields of a sealed frame. -/
theorem everyFieldValueIsAccepted : Obligations.EveryFieldValueIsAccepted := by
  intro s f
  have hvalid := frameValid_sealFrame_toFrame s.params f
  have hexec := exec_decodeFrame_of_valid hvalid
  rw [messageOf_sealFrame_toFrame] at hexec
  exact ⟨hvalid, hexec⟩

/-! ## ENCODE -/

/-- `ENCODE`'s frame for a legal identifier (R100). -/
def encodedFrame (p : Params) (identifier : Word) (r e : Bool) (payload : List Byte) : Frame :=
  sealFrame p (headFields identifier r e payload).toFrame

theorem exec_encodeMsg_of_le (s : State) {identifier : Word} (h : identifier ≤ 0x7FF) (r e : Bool) (payload : List Byte) :
    exec (.encodeMsg identifier r e payload) s =
      .next (s.done (.encoded (encodedFrame s.params identifier r e payload) (truncatedFlag payload))) :=
  exec_encodeMsg_of_ok (encodeMessage_of_le s.params h r e payload)

theorem setWidth_eleven_toNat {identifier : Word} (h : identifier ≤ 0x7FF) :
    (identifier.setWidth 11).toNat = identifier.toNat := by
  have hle : identifier.toNat ≤ 2047 := h
  rw [BitVec.toNat_setWidth, Nat.mod_eq_of_lt (by omega)]

theorem encodedFrame_b0 (p : Params) {identifier : Word} (h : identifier ≤ 0x7FF) (r e : Bool) (payload : List Byte) :
    (encodedFrame p identifier r e payload).b0 = 0xA8#8 ||| (identifier >>> 8).setWidth 8 := by
  have hle : identifier.toNat ≤ 2047 := h
  have hb0 : (encodedFrame p identifier r e payload).b0.toNat = 0xA8 + identifier.toNat / 256 := by
    rw [← setWidth_eleven_toNat h]
    exact toFrame_b0_toNat (headFields identifier r e payload)
  apply BitVec.eq_of_toNat_eq
  rw [hb0, BitVec.toNat_or, BitVec.toNat_setWidth, BitVec.toNat_ushiftRight, Nat.shiftRight_eq_div_pow,
    Nat.mod_eq_of_lt (by omega)]
  exact Nat.two_pow_add_eq_or_of_lt (i := 3) (by omega) 21

theorem encodedFrame_b1 (p : Params) {identifier : Word} (h : identifier ≤ 0x7FF) (r e : Bool) (payload : List Byte) :
    (encodedFrame p identifier r e payload).b1 = identifier.setWidth 8 := by
  apply BitVec.eq_of_toNat_eq
  rw [BitVec.toNat_setWidth, ← setWidth_eleven_toNat h]
  exact toFrame_b1_toNat (headFields identifier r e payload)

theorem encodedFrame_b2 (p : Params) (identifier : Word) (r e : Bool) (payload : List Byte) :
    (encodedFrame p identifier r e payload).b2 =
      (if r then 0x80#8 else 0#8) ||| (if e then 0x40#8 else 0#8) ||| BitVec.ofNat 8 (min payload.length 8) := by
  have hb2 : (encodedFrame p identifier r e payload).b2 =
      BitVec.ofBool r ++ BitVec.ofBool e ++ 0#2 ++ BitVec.ofNat 4 (min payload.length 8) := rfl
  have hcontrol : ∀ n < 9, ∀ r e : Bool, BitVec.ofBool r ++ BitVec.ofBool e ++ 0#2 ++ BitVec.ofNat 4 n =
      (if r then 0x80#8 else 0#8) ||| (if e then 0x40#8 else 0#8) ||| BitVec.ofNat 8 n := by decide
  rw [hb2]
  exact hcontrol _ (by omega) r e

theorem payloadField_encodedFrame (p : Params) (identifier : Word) (r e : Bool) (payload : List Byte) :
    payloadField (encodedFrame p identifier r e payload) = (payload ++ [0, 0, 0, 0, 0, 0, 0, 0]).take 8 :=
  paddedBytes_eq payload

theorem lowByte_eq_setWidth (c : Word) : lowByte c = c.setWidth 8 := by
  apply BitVec.eq_of_toNat_eq
  simp [lowByte]

theorem highByte_eq_setWidth (c : Word) : highByte c = (c >>> 8).setWidth 8 := by
  apply BitVec.eq_of_toNat_eq
  simp [highByte]

/-- Settles O16, one lemma per byte. -/
theorem encodeReturnsFrame : Obligations.EncodeReturnsFrame := by
  intro s identifier r e payload h
  exact ⟨encodedFrame s.params identifier r e payload, exec_encodeMsg_of_le s h r e payload,
    encodedFrame_b0 s.params h r e payload, encodedFrame_b1 s.params h r e payload,
    encodedFrame_b2 s.params identifier r e payload, payloadField_encodedFrame s.params identifier r e payload,
    lowByte_eq_setWidth _, highByte_eq_setWidth _⟩

theorem dlcOf_toNat (payload : List Byte) : (dlcOf payload).toNat = min payload.length 8 := by
  simp [dlcOf, Config.dlcMax]

/-- The frame of a payload is that of its first 8 bytes (R102). -/
theorem headFields_take (identifier : Word) (r e : Bool) (payload : List Byte) :
    headFields identifier r e (payload.take 8) = headFields identifier r e payload := by
  have hdlc : dlcOf (payload.take 8) = dlcOf payload := by
    apply BitVec.eq_of_toNat_eq
    rw [dlcOf_toNat, dlcOf_toNat, List.length_take]
    omega
  simp [headFields, hdlc, paddedByte, List.getD_eq_getElem?_getD]

theorem encodedFrame_fields (p : Params) (identifier : Word) (r e : Bool) (payload : List Byte) :
    (encodedFrame p identifier r e payload).fields =
      { headFields identifier r e payload with
        crcLo := (encodedFrame p identifier r e payload).b11, crcHi := (encodedFrame p identifier r e payload).b12 } := by
  rw [encodedFrame, sealFrame_fields, fields_toFrame]
  rfl

theorem encodedFrame_dlc (p : Params) (identifier : Word) (r e : Bool) (payload : List Byte) :
    (encodedFrame p identifier r e payload).fields.dlc = dlcOf payload := by rw [encodedFrame_fields]; rfl

theorem encodedFrame_rsvd (p : Params) (identifier : Word) (r e : Bool) (payload : List Byte) :
    (encodedFrame p identifier r e payload).fields.rsvd = 0 := by rw [encodedFrame_fields]; rfl

theorem frameValid_encodedFrame (p : Params) (identifier : Word) (r e : Bool) (payload : List Byte) :
    frameValid p (encodedFrame p identifier r e payload) = true := frameValid_sealFrame_toFrame p _

theorem truncatedFlag_of_le {payload : List Byte} (h : payload.length ≤ 8) : truncatedFlag payload = false := by
  simpa [truncatedFlag, Config.dlcMax] using h

/-- Settles O18. -/
theorem longPayloadIsTruncated : Obligations.LongPayloadIsTruncated := by
  intro s identifier r e payload h hlong
  have hwhole := exec_encodeMsg_of_le s h r e payload
  have htake := exec_encodeMsg_of_le s h r e (payload.take 8)
  have htruncated : truncatedFlag payload = true := by simpa [truncatedFlag, Config.dlcMax] using hlong
  rw [htruncated] at hwhole
  rw [encodedFrame, headFields_take, truncatedFlag_of_le (by simp)] at htake
  refine ⟨_, hwhole, htake, ?_⟩
  rw [encodedFrame_dlc, ← BitVec.toNat_inj, dlcOf_toNat, Nat.min_eq_right hlong.le]
  rfl

/-- Settles O19: `ENCODE` returns no other frame than `encodedFrame`. -/
theorem encodedFramesAreValid : Obligations.EncodedFramesAreValid := by
  intro s t identifier r e payload f truncated hexec houtcome
  by_cases h : identifier ≤ 0x7FF
  · rw [exec_encodeMsg_of_le s h] at hexec
    cases hexec
    cases houtcome
    refine ⟨frameValid_encodedFrame .., encodedFrame_rsvd .., ?_⟩
    rw [encodedFrame_dlc, dlcOf_toNat]
    exact Nat.min_le_right _ _
  · rw [exec_encodeMsg_of_error (encodeMessage_of_lt s.params (BitVec.not_le.mp h) r e payload)] at hexec
    cases hexec
    cases houtcome

/-! ## Round trip and single-bit errors -/

/-- The message of an encoded frame is the one offered (R106). -/
theorem messageOf_encodedFrame (p : Params) (identifier : Word) (r e : Bool) {payload : List Byte} (h : payload.length ≤ 8) :
    messageOf (encodedFrame p identifier r e payload) =
      { identifier := identifier.setWidth 11, isRemote := r, isExtended := e, dlc := BitVec.ofNat 4 payload.length
        payload := payload, fmtWarn := false } := by
  have hdlc : dlcOf payload = BitVec.ofNat 4 payload.length := by rw [dlcOf, Config.dlcMax, Nat.min_eq_left h]
  have hnat : (dlcOf payload).toNat = payload.length := by rw [dlcOf_toNat, Nat.min_eq_left h]
  have hpayload : payloadField (headFields identifier r e payload).toFrame =
      (payload ++ [0, 0, 0, 0, 0, 0, 0, 0]).take 8 := paddedBytes_eq payload
  have htake : ((payload ++ [0, 0, 0, 0, 0, 0, 0, 0]).take 8).take payload.length = payload := by
    rw [List.take_take, Nat.min_eq_left h, List.take_left]
  rw [encodedFrame, messageOf_sealFrame_toFrame, hpayload]
  simp only [headFields, hnat, Nat.min_eq_left h, htake, ← hdlc]
  simp [h]

/-- Settles O21. -/
theorem decodeOfEncodeReturnsMessage : Obligations.DecodeOfEncodeReturnsMessage := by
  intro s identifier r e payload h hshort
  have hencode := exec_encodeMsg_of_le s h r e payload
  have hdecode := exec_decodeFrame_of_valid (frameValid_encodedFrame s.params identifier r e payload)
  rw [truncatedFlag_of_le hshort] at hencode
  rw [messageOf_encodedFrame s.params identifier r e hshort] at hdecode
  exact ⟨_, hencode, hdecode⟩

/-- Settles O22: the CRC of the 13 bytes is 0 for the valid frame and another value for the other one. -/
theorem singleBitFlipFailsDecode : Obligations.SingleBitFlipFailsDecode := by
  intro s w v a c b k hk hvalid hw hv
  obtain ⟨-, hcrc⟩ := (frameValid_iff _ _).mp hvalid
  rw [crcOk_iff_crc16_bytes] at hcrc
  have hne := crcSeesEverySingleBit s.params a c b k hk
  rw [← hw, ← hv, hcrc] at hne
  have hbad : crcOk s.params v = false := by
    rw [Bool.eq_false_iff, Ne, crcOk_iff_crc16_bytes]
    exact hne.symm
  exact exec_decodeFrame_of_crc hbad

/-! ## SEND and the wire -/

theorem exec_send_of_ok {s : State} {identifier : Word} {r e : Bool} {payload : List Byte} {f : Frame} {truncated : Bool}
    (a : WriteAnswer) (h : encodeMessage s.params identifier r e payload = .ok (f, truncated)) :
    exec (.send identifier r e a payload) s = .next ((s.streamWrite f a).done (.sent a truncated)) := by
  simp only [exec, execSend, h]

/-- Settles O23. -/
theorem sendWritesOneFrame : Obligations.SendWritesOneFrame := by
  intro s identifier r e a payload h
  exact ⟨_, _, exec_encodeMsg_of_le s h r e payload, exec_send_of_ok a (encodeMessage_of_le s.params h r e payload)⟩

/-- Settles O47. -/
theorem frameJoinsInboundStream : Obligations.FrameJoinsInboundStream := by
  intro s f
  exact ⟨f.toFrame, markerOk_toFrame f, fields_toFrame f, rfl⟩

end Sys2Proof.Encoding
end

section
/-! PROOFS. What an operation may change, by the cases of `Effect`: the table of `PHASE` (R129), forward progress (R131), the
writers of each field (R39), and what stays in a blocked delivery (R197) and in `STOPPED` (R128). -/

namespace Sys2Proof.Machine

/-- The operations outside the phase table of R129. -/
theorem not_phase_operation {i : Instr} (h : IsQuiet i ∨ IsPop i ∨ i = .stop) :
    i ≠ .reset ∧ i ≠ .start ∧ (∀ a, i ≠ .syncCheck a) ∧ (∀ a, i ≠ .syncRead a) ∧
      i ≠ .syncValidate ∧ i ≠ .syncDeliver := by
  rcases h with h | h | rfl
  · cases h <;> simp
  · cases h <;> simp
  · simp

theorem IsPop.eq_qPop_or_recv {i : Instr} (h : IsPop i) :
    (∃ mode caller, i = .qPop mode caller) ∨ ∃ mode caller, i = .recv mode caller := by
  cases h with
  | qPop mode caller => exact .inl ⟨mode, caller, rfl⟩
  | recv mode caller => exact .inr ⟨mode, caller, rfl⟩

/-- Settles O28: in `DELIVER` every other step of the loop is refused, and a delivery finds no room. -/
theorem onlyPopFreesBlockedDelivery : Obligations.OnlyPopFreesBlockedDelivery := by
  intro s t i hp hfull hmicro hpop hrecv hreset hexec
  cases exec_effect hexec with
  | quiet | stop | deliverBlocked => exact ⟨hp, rfl, rfl⟩
  | reset => exact absurd rfl hreset
  | pop hi =>
    cases hi with
    | qPop mode caller => exact absurd rfl (hpop mode caller)
    | recv mode caller => exact absurd rfl (hrecv mode caller)
  | deliver _ hroom => omega
  | start hp' | checkStopped _ hp' | checkClosed hp' | checkOpen hp' | readRetry _ hp' | readOutstanding _ hp' | readFill hp'
  | reject hp' | accept hp' => exact absurd (hp.symm.trans hp') (by decide)
  | shed | push | pushBlocked => cases hmicro

/-- Settles O40: in `STOPPED` every step of the loop is refused. -/
theorem stoppedIsTerminal : Obligations.StoppedIsTerminal := by
  intro s t i hp hmicro hreset hexec
  cases exec_effect hexec with
  | quiet | stop => exact ⟨hp, rfl, rfl, [], rfl⟩
  | reset => exact absurd rfl hreset
  | pop _ hq =>
    obtain rfl | ⟨f, hf⟩ := hq
    · exact ⟨hp, rfl, rfl, [], rfl⟩
    · exact ⟨hp, rfl, rfl, [f], hf⟩
  | start hp' | checkStopped _ hp' | checkClosed hp' | checkOpen hp' | readRetry _ hp' | readOutstanding _ hp' | readFill hp'
  | reject hp' | accept hp' | deliver hp' | deliverBlocked hp' => exact absurd (hp.symm.trans hp') (by decide)
  | shed | push | pushBlocked => cases hmicro

/-- Settles O41: only a delivery and a pop need to say which frame they moved. -/
theorem eachFieldHasItsWriters : Obligations.EachFieldHasItsWriters := by
  intro s t i hmicro hexec
  cases exec_effect hexec with
  | quiet | stop | start | reset | checkStopped | checkClosed | checkOpen | readRetry | readOutstanding | readFill | reject
  | accept | deliverBlocked => simp
  | pop hi hq =>
    exact ⟨rfl, by simp, by simp, by simp, by simp, fun hne => .inr (.inr ⟨hi.eq_qPop_or_recv, hq.resolve_left hne⟩)⟩
  | deliver _ _ hw => simp [State.window_eq_some.mp hw]
  | shed | push | pushBlocked => cases hmicro

/-- Settles O37: each way an operation can end is a row of the table, or leaves `PHASE`. -/
theorem phaseMovesByTable : Obligations.PhaseMovesByTable := by
  intro s t i hmicro hexec
  cases exec_effect hexec with
  | quiet hi => simp [not_phase_operation (.inl hi)]
  | pop hi => simp [not_phase_operation (.inr (.inl hi))]
  | stop | reset => simp
  | start hp => simp [hp]
  | checkStopped a hp hr => simp [hp, hr]
  | checkClosed hp hr => simp [hp, hr]
  | checkOpen hp hr => simp [hp, hr]
  | readRetry ha hp => simp [ha, hp]
  | readOutstanding k hp => simp [hp]
  | @readFill k hp hk hreq hrx =>
    by_cases hfull : s.len + k = 13 <;> simp [hp, hk, State.len_append_of_le hrx, State.fill_len hrx, Config.frameLen, hfull]
  | reject hp hw hv kind => simp [hp, hw, hv, State.len_of_window hw]
  | accept hp hw hv => simp [hp, hw, hv, State.len_of_window hw]
  | deliver hp hroom hw =>
    have hlen : s.q.length < 5 := hroom
    simp [hp, State.qlen, hlen]
  | deliverBlocked hp hfull => simp [hp, hfull]
  | shed | push | pushBlocked => cases hmicro

/-- Settles O38: the only way into `VALIDATE` is a read that appends its bytes; a shed leaves room for one byte, a delivery for
thirteen. -/
theorem forwardProgress : Obligations.ForwardProgress := by
  intro s t i hmicro hexec
  cases exec_effect hexec with
  | quiet hi => simp [not_phase_operation (.inl hi)]
  | pop hi => simp [not_phase_operation (.inr (.inl hi))]
  | stop | reset | start | checkStopped | checkClosed | checkOpen | readRetry | readOutstanding | accept => simp
  | @readFill k hp hk hreq hrx =>
    refine ⟨fun _ _ => ⟨s.rx.take k, ?_, ?_, ?_, rfl⟩, nofun, nofun⟩
    · rwa [List.length_take_of_le hrx]
    · rw [List.length_take_of_le hrx]
    · exact (List.take_append_drop k s.rx).symm
  | reject hp hw => simp [State.request, State.len_of_window hw, Config.frameLen]
  | deliver => simp [State.request, Config.frameLen]
  | deliverBlocked hp => simp [hp]
  | shed | push | pushBlocked => cases hmicro

end Sys2Proof.Machine
end

section
/-! PROOFS. One equation per case of each meaning (R121 to R127, R151 to R155, R190), and the statements that are those equations. -/

namespace Sys2Proof.Machine

variable {s : State}

/-! ## HOST control -/

theorem exec_start_of_idle (h : s.phase = .idle) :
    exec .start s = .next (((s.setRun true).setPhase .check).done .unit) := by
  simp only [exec, execStart, h, if_true]

theorem exec_start_of_ne (h : s.phase ≠ .idle) : exec .start s = .refused .startNotIdle := by
  simp only [exec, execStart, h, if_false]

/-- Settles O24: what an abandoned read takes is cut to its request, and with no read outstanding nothing is taken. -/
theorem resetGivesResetValues : Obligations.ResetGivesResetValues := by
  intro s
  refine ⟨s.abandonRead.rx, s.abandonRead.draws, ?_, fun hp => ?_, fun hp => ?_⟩
  · by_cases hp : s.phase = .read <;> simp only [exec, execReset, State.abandonRead, hp, if_true, if_false] <;> rfl
  · rw [State.abandonRead_of_not_reading s hp]
    exact ⟨rfl, rfl⟩
  · obtain ⟨hrx, -⟩ := State.abandonRead_of_reading s hp
    exact ⟨_, Nat.min_le_right _ _, hrx⟩

/-- Settles O25. -/
theorem resetStateValues : Obligations.ResetStateValues := by
  unfold Obligations.ResetStateValues
  decide

/-- Settles O26. -/
theorem startOnlyFromIdle : Obligations.StartOnlyFromIdle :=
  fun _ => ⟨exec_start_of_idle, exec_start_of_ne⟩

/-- Settles O27. -/
theorem stopClearsRunOnly : Obligations.StopClearsRunOnly := fun _ => rfl

/-! ## SYNC.CHECK -/

theorem exec_syncCheck_of_stopped (hp : s.phase = .check) (hr : s.run = false) (a : OpenAnswer) :
    exec (.syncCheck a) s = .next ((s.setPhase .stopped).done .unit) := by
  simp only [exec, execSyncCheck, hp, hr, if_true, Bool.false_eq_true, if_false]

theorem exec_syncCheck_of_closed (hp : s.phase = .check) (hr : s.run = true) :
    exec (.syncCheck .closed) s = .next ((s.latchClosed.setPhase .stopped).done .unit) := by
  simp only [exec, execSyncCheck, hp, hr, if_true]

theorem exec_syncCheck_of_open (hp : s.phase = .check) (hr : s.run = true) :
    exec (.syncCheck .isOpen) s = .next ((s.setPhase .read).done .unit) := by
  simp only [exec, execSyncCheck, hp, hr, if_true]

theorem exec_syncCheck_of_ne (hp : s.phase ≠ .check) (a : OpenAnswer) :
    exec (.syncCheck a) s = .refused .stepNotEnabled := by
  simp only [exec, execSyncCheck, hp, if_false]

/-- Settles O29. -/
theorem checkTestsRunThenOpen : Obligations.CheckTestsRunThenOpen :=
  fun _ => ⟨exec_syncCheck_of_stopped, fun hp hr => ⟨exec_syncCheck_of_closed hp hr, exec_syncCheck_of_open hp hr⟩,
    exec_syncCheck_of_ne⟩

/-! ## SYNC.READ -/

theorem exec_syncRead_of_retry (hp : s.phase = .read) {a : ReadAnswer} (ha : a = .rx 0 ∨ a = .err) :
    exec (.syncRead a) s = .next ((s.setPhase .check).done .unit) := by
  rcases ha with rfl | rfl <;> simp only [exec, execSyncRead, hp, if_true]

theorem exec_syncRead_of_gt (hp : s.phase = .read) {k : Nat} (hk : 1 ≤ k) (hreq : s.request < k) :
    exec (.syncRead (.rx k)) s = .refused .answerTooLong := by
  have hk0 : k ≠ 0 := by omega
  simp only [exec, execSyncRead, hp, hk0, if_true, if_false, gt_iff_lt, hreq]

theorem exec_syncRead_of_short (hp : s.phase = .read) {k : Nat} (hk : 1 ≤ k) (hreq : k ≤ s.request)
    (hrx : s.rx.length < k) : exec (.syncRead (.rx k)) s = .next (s.block .readOutstanding) := by
  have hk0 : k ≠ 0 := by omega
  simp only [exec, execSyncRead, hp, hk0, if_true, if_false, gt_iff_lt, Nat.not_lt.mpr hreq, hrx]

theorem exec_syncRead_of_fill (hp : s.phase = .read) {k : Nat} (hk : 1 ≤ k) (hreq : k ≤ s.request)
    (hrx : k ≤ s.rx.length) : exec (.syncRead (.rx k)) s = .next ((s.fill k).done .unit) := by
  have hk0 : k ≠ 0 := by omega
  simp only [exec, execSyncRead, hp, hk0, if_true, if_false, gt_iff_lt, Nat.not_lt.mpr hreq, Nat.not_lt.mpr hrx]

theorem exec_syncRead_of_ne (hp : s.phase ≠ .read) (a : ReadAnswer) :
    exec (.syncRead a) s = .refused .stepNotEnabled := by
  simp only [exec, execSyncRead, hp, if_false]

/-- Settles O30. -/
theorem emptyOrFailedReadRetries : Obligations.EmptyOrFailedReadRetries :=
  fun _ hp => ⟨exec_syncRead_of_retry hp (.inl rfl), exec_syncRead_of_retry hp (.inr rfl)⟩

/-- Settles O31. -/
theorem readAppendsStreamBytes : Obligations.ReadAppendsStreamBytes := by
  intro s k hp hk hreq hrx
  refine ⟨s.rx.take k, s.rx.drop k, (List.take_append_drop k s.rx).symm, List.length_take_of_le hrx, ?_⟩
  rw [exec_syncRead_of_fill hp hk hreq hrx, State.fill, State.len_append_of_le hrx]
  rfl

/-- Settles O32. -/
theorem readNeverExceedsRequest : Obligations.ReadNeverExceedsRequest :=
  fun _ _ => ⟨fun hp => exec_syncRead_of_gt hp, fun hp => exec_syncRead_of_short hp, exec_syncRead_of_ne⟩

/-! ## SYNC.VALIDATE and SYNC.SHED -/

theorem exec_syncValidate_of_marker (hp : s.phase = .validate) {w : Frame} (hw : s.buf = w.bytes)
    (hm : markerOk w = false) :
    exec .syncValidate s = .next ((s.emit (.reject w .markerMismatch)).shed.done .unit) := by
  simp only [exec, execSyncValidate, hp, if_true, State.window_eq_some.mpr hw, hm, Bool.not_false]

theorem exec_syncValidate_of_crc (hp : s.phase = .validate) {w : Frame} (hw : s.buf = w.bytes) (hm : markerOk w = true)
    (hc : crcOk s.params w = false) :
    exec .syncValidate s = .next ((s.emit (.reject w .checksumMismatch)).shed.done .unit) := by
  simp only [exec, execSyncValidate, hp, if_true, State.window_eq_some.mpr hw, hm, hc, Bool.not_false, Bool.not_true,
    Bool.false_eq_true, if_false]

theorem exec_syncValidate_of_valid (hp : s.phase = .validate) {w : Frame} (hw : s.buf = w.bytes)
    (hv : frameValid s.params w = true) :
    exec .syncValidate s = .next (((s.emit (.accept w)).setPhase .deliver).done .unit) := by
  obtain ⟨hm, hc⟩ := (frameValid_iff _ _).mp hv
  simp only [exec, execSyncValidate, hp, if_true, State.window_eq_some.mpr hw, hm, hc, Bool.not_true,
    Bool.false_eq_true, if_false]

theorem exec_syncValidate_of_ne (hp : s.phase ≠ .validate) : exec .syncValidate s = .refused .stepNotEnabled := by
  simp only [exec, execSyncValidate, hp, if_false]

theorem exec_syncValidate_of_len (hp : s.phase = .validate) (hl : s.len ≠ 13) :
    exec .syncValidate s = .fault .bufNoValue := by
  simp only [exec, execSyncValidate, hp, if_true, State.window_eq_none.mpr hl]

theorem emit_sink_cases (s : State) (ev : DiagEvent) : (s.emit ev).sink = s.sink ∨ (s.emit ev).sink = s.sink ++ [ev] := by
  rw [State.emit_sink]
  split
  · exact .inr rfl
  · exact .inl rfl

/-- What a rejection leaves: the window without its first byte, one more resync, and the event (R125, R178). -/
theorem emit_shed_done_eq {w : Frame} (hw : s.buf = w.bytes) (ev : DiagEvent) :
    (s.emit ev).shed.done .unit = { s with
      buf := w.bytes.tail, phase := .check, resyncCnt := min (s.resyncCnt + 1) (2 ^ s.params.resyncW - 1)
      emitted := s.emitted ++ [ev], sink := (s.emit ev).sink, draws := s.draws + 1, outcome := .completed .unit } := by
  rw [← hw, ← List.drop_one]
  rfl

/-- Settles O33: the three ways of a validation exclude each other, and each fixes the event the sink takes or not. -/
theorem validateShedsOneByteOrAccepts : Obligations.ValidateShedsOneByteOrAccepts := by
  intro s w hp hw
  cases hm : markerOk w with
  | false =>
    refine ⟨(s.emit (.reject w .markerMismatch)).sink, fun _ => ⟨?_, emit_sink_cases s _⟩, nofun, by simp [frameValid, hm]⟩
    rw [exec_syncValidate_of_marker hp hw hm, emit_shed_done_eq hw]
  | true =>
    cases hc : crcOk s.params w with
    | false =>
      refine ⟨(s.emit (.reject w .checksumMismatch)).sink, nofun, fun _ _ => ⟨?_, emit_sink_cases s _⟩,
        by simp [frameValid, hc]⟩
      rw [exec_syncValidate_of_crc hp hw hm hc, emit_shed_done_eq hw]
    | true =>
      have hv : frameValid s.params w = true := (frameValid_iff _ _).mpr ⟨hm, hc⟩
      exact ⟨(s.emit (.accept w)).sink, nofun, nofun, fun _ => ⟨exec_syncValidate_of_valid hp hw hv, emit_sink_cases s _⟩⟩

theorem classify_eq_valid_iff (p : Params) (w : Frame) : classify p w = .valid ↔ frameValid p w = true := by
  cases hm : markerOk w <;> cases hc : crcOk p w <;> simp [classify, frameValid, hm, hc]

/-- `DECODE` succeeds exactly on the valid frames, in whichever order it tests (R104). -/
theorem exec_decodeFrame_decodes_iff (s : State) (w : Frame) :
    (∃ m, exec (.decodeFrame w) s = .next { s with outcome := .completed (.decoded m) }) ↔ frameValid s.params w = true := by
  constructor
  · rintro ⟨m, hm⟩
    by_contra hv
    obtain hc | ⟨hc, hmark⟩ : crcOk s.params w = false ∨ crcOk s.params w = true ∧ markerOk w = false := by
      cases hc : crcOk s.params w <;> simp_all [frameValid]
    · rw [Encoding.exec_decodeFrame_of_crc hc] at hm
      cases hm
    · rw [Encoding.exec_decodeFrame_of_marker hc hmark] at hm
      cases hm
  · intro hv
    exact ⟨_, Encoding.exec_decodeFrame_of_valid hv⟩

/-- Settles O39: each class is one way of a validation, and `DECODE`'s success is the third class. -/
theorem syncAndDecodeAcceptTheSameWindows : Obligations.SyncAndDecodeAcceptTheSameWindows := by
  intro s w hp hw
  have hdecode := (exec_decodeFrame_decodes_iff s w).trans (classify_eq_valid_iff s.params w).symm
  cases hm : markerOk w with
  | false => exact ⟨_, exec_syncValidate_of_marker hp hw hm, by simp [classify, hm], hdecode⟩
  | true =>
    cases hc : crcOk s.params w with
    | false => exact ⟨_, exec_syncValidate_of_crc hp hw hm hc, by simp [classify, hm, hc], hdecode⟩
    | true =>
      have hv := (frameValid_iff _ _).mpr ⟨hm, hc⟩
      exact ⟨_, exec_syncValidate_of_valid hp hw hv, by simp [classify, hm, hc], hdecode⟩

theorem exec_syncShed_of_len (hl : s.len ≠ 13) : exec .syncShed s = .fault .bufNoValue := by
  simp only [exec, execSyncShed, State.window_eq_none.mpr hl]

theorem exec_syncShed_of_window {w : Frame} (hw : s.window = some w) : exec .syncShed s = .next (s.shed.done .unit) := by
  simp only [exec, execSyncShed, hw]

/-- Settles O34. -/
theorem shedEvictsFrontByte : Obligations.ShedEvictsFrontByte := by
  intro s
  refine ⟨fun hl => ?_, fun hl t ht => ?_⟩
  · obtain ⟨w, hw, -⟩ := State.window_of_len hl
    have hbuf : s.buf.length = 13 := hl
    exact ⟨_, exec_syncShed_of_window hw, by simp [hl], by simp, by simp [hbuf], rfl, rfl, rfl⟩
  · rw [exec_syncShed_of_len hl] at ht
    cases ht

/-! ## SYNC.DELIVER -/

theorem exec_syncDeliver_of_room (hp : s.phase = .deliver) (hq : s.qlen < 5) {w : Frame} (hw : s.buf = w.bytes) :
    exec .syncDeliver s = .next ((s.deliver w).done .unit) := by
  simp only [exec, execSyncDeliver, hp, if_true, Config.qCap, hq, State.window_eq_some.mpr hw]

theorem exec_syncDeliver_of_full (hp : s.phase = .deliver) (hq : 5 ≤ s.qlen) :
    exec .syncDeliver s = .next (s.block .queueFull) := by
  simp only [exec, execSyncDeliver, hp, if_true, Config.qCap, Nat.not_lt.mpr hq, if_false]

theorem exec_syncDeliver_of_ne (hp : s.phase ≠ .deliver) : exec .syncDeliver s = .refused .stepNotEnabled := by
  simp only [exec, execSyncDeliver, hp, if_false]

theorem exec_syncDeliver_of_len (hp : s.phase = .deliver) (hq : s.qlen < 5) (hl : s.len ≠ 13) :
    exec .syncDeliver s = .fault .bufNoValue := by
  simp only [exec, execSyncDeliver, hp, if_true, Config.qCap, hq, State.window_eq_none.mpr hl]

/-- Settles O35. -/
theorem deliverPushesWindowOrBlocks : Obligations.DeliverPushesWindowOrBlocks := by
  intro s hp
  refine ⟨fun w hw hq => exec_syncDeliver_of_room hp hq hw, fun hq => exec_syncDeliver_of_full hp hq.ge,
    fun a b => ⟨?_, ?_, ?_⟩⟩
  · exact exec_syncCheck_of_ne (by simp [hp]) a
  · exact exec_syncRead_of_ne (by simp [hp]) b
  · exact exec_syncValidate_of_ne (by simp [hp])

/-- Settles O36. -/
theorem byteWithoutValueFaults : Obligations.ByteWithoutValueFaults := by
  refine ⟨fun s i => ?_, fun s hl => ⟨fun hp => exec_syncValidate_of_len hp hl,
    fun hp hq => exec_syncDeliver_of_len hp hq hl, exec_syncShed_of_len hl⟩⟩
  rw [State.len, ← List.getElem?_eq_none_iff]
  cases h : s.buf[i]? <;> simp [State.readBuf, h]

/-! ## The queue -/

theorem exec_qPush_of_room {f : Frame} (hq : s.qlen < 5) : exec (.qPush f) s = .next ((s.push f).done .unit) := by
  simp only [exec, execQPush, Config.qCap, hq, if_true]

theorem exec_qPush_of_full {f : Frame} (hq : 5 ≤ s.qlen) : exec (.qPush f) s = .next (s.block .queueFull) := by
  simp only [exec, execQPush, Config.qCap, Nat.not_lt.mpr hq, if_false]

/-- Settles O42. -/
theorem pushAppendsOrBlocks : Obligations.PushAppendsOrBlocks :=
  fun _ _ => ⟨exec_qPush_of_room, fun hfull => exec_qPush_of_full hfull.ge⟩

/-- A consumer's call may run if it is new or among the pending ones (R155, log entry 9). -/
def MayRun (s : State) (op : PopOp) (mode : PopMode) (caller : Caller) : Prop :=
  caller = .pending → ⟨op, mode⟩ ∈ s.pendingPops

theorem mayRun_fresh (s : State) (op : PopOp) (mode : PopMode) : MayRun s op mode .fresh := nofun

theorem mayRun_pending {op : PopOp} {mode : PopMode} (h : PendingCall.mk op mode ∈ s.pendingPops) :
    MayRun s op mode .pending := fun _ => h

section PopCall

variable {op : PopOp} {mode : PopMode} {caller : Caller} {finish : Option Frame → State → State}

theorem popCall_of_not_pending (h : PendingCall.mk op mode ∉ s.pendingPops) :
    popCall op mode .pending finish s = .refused .noPendingCall := if_pos ⟨rfl, h⟩

theorem MayRun.not_guard (h : MayRun s op mode caller) : ¬(caller = .pending ∧ ⟨op, mode⟩ ∉ s.pendingPops) :=
  fun ⟨hcaller, hnot⟩ => hnot (h hcaller)

theorem popCall_of_cons (h : MayRun s op mode caller) {f : Frame} {rest : List Frame} (hq : s.q = f :: rest) :
    popCall op mode caller finish s = .next (finish (some f) (State.endCall { s with q := rest } caller ⟨op, mode⟩)) := by
  simp only [popCall, if_neg h.not_guard, State.pop_cons hq]

theorem popCall_of_stopped (h : MayRun s op mode caller) (hq : s.q = []) (hp : s.phase = .stopped) :
    popCall op mode caller finish s = .next (finish none (s.endCall caller ⟨op, mode⟩)) := by
  simp only [popCall, if_neg h.not_guard, State.pop_stopped hq hp]

theorem popCall_of_block (h : MayRun s op .block caller) (hq : s.q = []) (hp : s.phase ≠ .stopped) :
    popCall op .block caller finish s = .next ((s.keepCall caller ⟨op, .block⟩).block .queueEmpty) := by
  simp only [popCall, if_neg h.not_guard, State.pop_block hq hp]

/-- Whatever the free value says, a call with a timeout returns with no frame or waits (U10). -/
theorem popCall_of_timeout (h : MayRun s op .timeout caller) (hq : s.q = []) (hp : s.phase ≠ .stopped) :
    popCall op .timeout caller finish s = .next (finish none (s.drawn.endCall caller ⟨op, .timeout⟩)) ∨
    popCall op .timeout caller finish s = .next ((s.drawn.keepCall caller ⟨op, .timeout⟩).block .queueEmpty) := by
  rcases State.pop_timeout hq hp with hpop | hpop
  · exact .inl (by simp only [popCall, if_neg h.not_guard, hpop])
  · exact .inr (by simp only [popCall, if_neg h.not_guard, hpop])

end PopCall

/-- Settles O43. -/
theorem popReturnsOldestFrame : Obligations.PopReturnsOldestFrame :=
  fun s mode => ⟨fun _ _ hq => popCall_of_cons (mayRun_fresh s .pop mode) hq,
    fun hq hp => popCall_of_stopped (mayRun_fresh s .pop mode) hq hp⟩

/-- Settles O44. -/
theorem popOnEmptyQueueWaits : Obligations.PopOnEmptyQueueWaits :=
  fun s hq hp => ⟨popCall_of_block (mayRun_fresh s .pop .block) hq hp, popCall_of_block (mayRun_fresh s .recv .block) hq hp,
    popCall_of_timeout (mayRun_fresh s .pop .timeout) hq hp, popCall_of_timeout (mayRun_fresh s .recv .timeout) hq hp⟩

/-- Settles O45. -/
theorem pendingPopGetsItsChance : Obligations.PendingPopGetsItsChance := by
  refine fun s mode => ⟨fun hpending => ⟨fun _ _ hq => ?_, fun hq hp => ?_, ?_, ?_⟩, popCall_of_not_pending⟩
  · exact popCall_of_cons (mayRun_pending hpending) hq
  · exact popCall_of_stopped (mayRun_pending hpending) hq hp
  · rintro hq hp rfl
    exact popCall_of_block (mayRun_pending hpending) hq hp
  · rintro hq hp rfl
    exact popCall_of_timeout (mayRun_pending hpending) hq hp

theorem finishRecv_of_valid {f : Frame} (hv : frameValid s.params f = true) :
    finishRecv (some f) s = s.done (.received (some (messageOf f)) false) := by
  simp only [finishRecv, decodeMessage_of_valid hv]

/-- A `RECV` that finds a valid frame returns its message (R109). -/
theorem exec_recv_of_cons {mode : PopMode} {caller : Caller} (h : MayRun s .recv mode caller) {f : Frame}
    {rest : List Frame} (hq : s.q = f :: rest) (hv : frameValid s.params f = true) :
    exec (.recv mode caller) s = .next
      ((State.endCall { s with q := rest } caller ⟨.recv, mode⟩).done (.received (some (messageOf f)) false)) := by
  rw [← finishRecv_of_valid (by simpa using hv)]
  exact popCall_of_cons h hq

/-- Settles O46. -/
theorem recvDecodesOldestFrame : Obligations.RecvDecodesOldestFrame := by
  refine fun s mode => ⟨fun f rest hq hv => ⟨messageOf f, ?_, ?_, fun hpending => ?_⟩, fun hq hp => ?_,
    fun hpending hq => ⟨fun hp => ?_, ?_, ?_⟩, popCall_of_not_pending⟩
  · exact Encoding.exec_decodeFrame_of_valid hv
  · exact exec_recv_of_cons (mayRun_fresh s .recv mode) hq hv
  · exact exec_recv_of_cons (mayRun_pending hpending) hq hv
  · exact popCall_of_stopped (mayRun_fresh s .recv mode) hq hp
  · exact popCall_of_stopped (mayRun_pending hpending) hq hp
  · rintro hp rfl
    exact popCall_of_block (mayRun_pending hpending) hq hp
  · rintro hp rfl
    exact popCall_of_timeout (mayRun_pending hpending) hq hp

end Sys2Proof.Machine
end

section
/-! PROOFS. What the operations do not look at: the buffer for the HOST (R29, R39), the diagnostics for everyone (R178, R201). The
state is changed in those fields, and the operation is shown to go the same way. -/

namespace Sys2Proof.Machine

/-- The state with its buffer, its trace and its sink changed. -/
def State.alter (g : List Byte → List Byte) (e k : List DiagEvent → List DiagEvent) (s : State) : State :=
  { s with buf := g s.buf, emitted := e s.emitted, sink := k s.sink }

/-- A result with its next state changed. -/
def mapNext (φ : State → State) : Result → Result
  | .next t => .next (φ t)
  | .fault why => .fault why
  | .refused why => .refused why

@[simp] theorem mapNext_next (φ : State → State) (t : State) : mapNext φ (.next t) = .next (φ t) := rfl
@[simp] theorem mapNext_fault (φ : State → State) (why : Fault) : mapNext φ (.fault why) = .fault why := rfl
@[simp] theorem mapNext_refused (φ : State → State) (why : Refusal) : mapNext φ (.refused why) = .refused why := rfl

/-- What a pop comes to, with its state changed. -/
def PopStep.mapState (φ : State → State) : PopStep → PopStep
  | .got f t => .got f (φ t)
  | .empty t => .empty (φ t)
  | .wait t => .wait (φ t)

variable {s : State} (g : List Byte → List Byte) (e k : List DiagEvent → List DiagEvent)

theorem pop_timeout_eq (hq : s.q = []) (hp : s.phase ≠ .stopped) :
    s.pop .timeout = if Config.timeoutElapsed s.draws then .empty s.drawn else .wait s.drawn := by
  simp [State.pop, hq, hp]

theorem pop_alter (mode : PopMode) : (s.alter g e k).pop mode = (s.pop mode).mapState (State.alter g e k) := by
  cases hq : s.q with
  | cons f rest => rw [State.pop_cons hq, State.pop_cons (s := s.alter g e k) hq]; rfl
  | nil =>
    by_cases hp : s.phase = .stopped
    · rw [State.pop_stopped hq hp, State.pop_stopped (s := s.alter g e k) hq hp]; rfl
    · cases mode with
      | block => rw [State.pop_block hq hp, State.pop_block (s := s.alter g e k) hq hp]; rfl
      | timeout =>
        have hdraws : (s.alter g e k).draws = s.draws := rfl
        rw [pop_timeout_eq hq hp, pop_timeout_eq (s := s.alter g e k) hq hp, hdraws]
        cases Config.timeoutElapsed s.draws <;> rfl

theorem endCall_alter (caller : Caller) (call : PendingCall) :
    (s.alter g e k).endCall caller call = (s.endCall caller call).alter g e k := by cases caller <;> rfl

theorem keepCall_alter (caller : Caller) (call : PendingCall) :
    (s.alter g e k).keepCall caller call = (s.keepCall caller call).alter g e k := by cases caller <;> rfl

theorem finishPop_alter (r : Option Frame) (u : State) : finishPop r (u.alter g e k) = (finishPop r u).alter g e k := by
  cases r <;> rfl

theorem finishRecv_alter (r : Option Frame) (u : State) : finishRecv r (u.alter g e k) = (finishRecv r u).alter g e k := by
  cases r with
  | none => rfl
  | some f =>
    have hparams : (u.alter g e k).params = u.params := rfl
    simp only [finishRecv, hparams]
    cases decodeMessage u.params f <;> rfl

theorem popCall_alter {op : PopOp} {mode : PopMode} {caller : Caller} {finish : Option Frame → State → State}
    (hfinish : ∀ r u, finish r (u.alter g e k) = (finish r u).alter g e k) :
    popCall op mode caller finish (s.alter g e k) = mapNext (State.alter g e k) (popCall op mode caller finish s) := by
  have hcalls : (s.alter g e k).pendingPops = s.pendingPops := rfl
  unfold popCall
  rw [hcalls, pop_alter]
  split
  · rfl
  · cases s.pop mode with
    | got f t => simp [PopStep.mapState, hfinish, endCall_alter]
    | empty t => simp [PopStep.mapState, hfinish, endCall_alter]
    | wait t => simp [PopStep.mapState, keepCall_alter]; rfl

/-- The operations of HOST and transport, `RESET` apart. -/
inductive IsHost : Instr → Prop
  | quiet {i : Instr} (hi : IsQuiet i) : IsHost i
  | pop {i : Instr} (hi : IsPop i) : IsHost i
  | start : IsHost .start
  | stop : IsHost .stop

theorem isHost_of_ne {i : Instr} (hmicro : i.isMicro = false) (hreset : i ≠ .reset) (hcheck : ∀ a, i ≠ .syncCheck a)
    (hread : ∀ a, i ≠ .syncRead a) (hvalidate : i ≠ .syncValidate) (hdeliver : i ≠ .syncDeliver) : IsHost i := by
  cases i with
  | frame13 | crc16 | encodeMsg | decodeFrame | send | crc16Update => exact .quiet (by constructor)
  | qPop | recv => exact .pop (by constructor)
  | start => exact .start
  | stop => exact .stop
  | reset => exact absurd rfl hreset
  | syncCheck a => exact absurd rfl (hcheck a)
  | syncRead a => exact absurd rfl (hread a)
  | syncValidate => exact absurd rfl hvalidate
  | syncDeliver => exact absurd rfl hdeliver
  | syncShed | qPush => cases hmicro

/-- No operation of HOST or transport looks at the buffer or at the diagnostics, and none writes them. -/
theorem exec_alter {i : Instr} (hi : IsHost i) :
    exec i (s.alter g e k) = mapNext (State.alter g e k) (exec i s) := by
  cases hi with
  | quiet hi =>
    cases hi with
    | frame13 | crc16 | crc16Update => rfl
    | encodeMsg identifier r ext payload =>
      cases h : encodeMessage s.params identifier r ext payload with
      | ok v => rw [Encoding.exec_encodeMsg_of_ok h, Encoding.exec_encodeMsg_of_ok (s := s.alter g e k) h]; rfl
      | error why => rw [Encoding.exec_encodeMsg_of_error h, Encoding.exec_encodeMsg_of_error (s := s.alter g e k) h]; rfl
    | decodeFrame w =>
      cases h : decodeMessage s.params w with
      | ok m => rw [Encoding.exec_decodeFrame_of_ok h, Encoding.exec_decodeFrame_of_ok (s := s.alter g e k) h]; rfl
      | error why => rw [Encoding.exec_decodeFrame_of_error h, Encoding.exec_decodeFrame_of_error (s := s.alter g e k) h]; rfl
    | send identifier r ext a payload =>
      cases h : encodeMessage s.params identifier r ext payload with
      | ok v => rw [Encoding.exec_send_of_ok a h, Encoding.exec_send_of_ok (s := s.alter g e k) a h]; rfl
      | error why => rw [Encoding.exec_send_of_error a h, Encoding.exec_send_of_error (s := s.alter g e k) a h]; rfl
  | pop hi =>
    cases hi with
    | qPop mode caller => exact popCall_alter g e k (finishPop_alter g e k)
    | recv mode caller => exact popCall_alter g e k (finishRecv_alter g e k)
  | start =>
    by_cases hp : s.phase = .idle
    · rw [exec_start_of_idle hp, exec_start_of_idle (s := s.alter g e k) hp]; rfl
    · rw [exec_start_of_ne hp, exec_start_of_ne (s := s.alter g e k) hp]; rfl
  | stop => rfl

/-- Settles O48: the buffer has its writers, none of them a HOST operation, and another buffer changes nothing else. -/
theorem hostCannotObserveBuffer : Obligations.HostCannotObserveBuffer := by
  intro s t i b hmicro hreset hcheck hread hvalidate hdeliver hexec
  have hhost := isHost_of_ne hmicro hreset hcheck hread hvalidate hdeliver
  obtain ⟨-, hwriters, -⟩ := eachFieldHasItsWriters s t i hmicro hexec
  constructor
  · by_contra hne
    rcases hwriters (.inl hne) with h | ⟨a, h⟩ | h | h
    · exact hreset h
    · exact hread a h
    · exact hvalidate h
    · exact hdeliver h
  · have halter := exec_alter (s := s) (fun _ => b) id id hhost
    rwa [hexec] at halter

/-! ## Diagnostics -/

/-- The state with other diagnostics. -/
def State.withDiag (s : State) (es ks : List DiagEvent) : State := s.alter id (fun _ => es) (fun _ => ks)

theorem exec_reset_withDiag (es ks : List DiagEvent) :
    exec .reset (s.withDiag es ks) = mapNext (fun t => t.withDiag es ks) (exec .reset s) := by
  show Host.Outcome.next ((s.withDiag es ks).abandonRead.clear.done .unit) =
    .next ((s.abandonRead.clear.done .unit).withDiag es ks)
  have habandon : (s.withDiag es ks).abandonRead = s.abandonRead.withDiag es ks := by
    by_cases hp : s.phase = .read
    · have hp' : (s.withDiag es ks).phase = .read := hp
      rw [State.abandonRead, if_pos hp', State.abandonRead, if_pos hp]
      rfl
    · rw [State.abandonRead_of_not_reading s hp, State.abandonRead_of_not_reading (s.withDiag es ks) hp]
  rw [habandon]
  rfl

theorem exec_syncCheck_withDiag (es ks : List DiagEvent) (a : OpenAnswer) :
    exec (.syncCheck a) (s.withDiag es ks) = mapNext (fun t => t.withDiag es ks) (exec (.syncCheck a) s) := by
  by_cases hp : s.phase = .check
  · cases hr : s.run with
    | false => rw [exec_syncCheck_of_stopped hp hr, exec_syncCheck_of_stopped (s := s.withDiag es ks) hp hr]; rfl
    | true =>
      cases a with
      | isOpen => rw [exec_syncCheck_of_open hp hr, exec_syncCheck_of_open (s := s.withDiag es ks) hp hr]; rfl
      | closed => rw [exec_syncCheck_of_closed hp hr, exec_syncCheck_of_closed (s := s.withDiag es ks) hp hr]; rfl
  · rw [exec_syncCheck_of_ne hp, exec_syncCheck_of_ne (s := s.withDiag es ks) hp]; rfl

theorem exec_syncRead_withDiag (es ks : List DiagEvent) (a : ReadAnswer) :
    exec (.syncRead a) (s.withDiag es ks) = mapNext (fun t => t.withDiag es ks) (exec (.syncRead a) s) := by
  by_cases hp : s.phase = .read
  · by_cases ha : a = .rx 0 ∨ a = .err
    · rw [exec_syncRead_of_retry hp ha, exec_syncRead_of_retry (s := s.withDiag es ks) hp ha]; rfl
    · obtain ⟨k, rfl, hk⟩ : ∃ k, a = .rx k ∧ 1 ≤ k := by
        cases a with
        | rx k => exact ⟨k, rfl, Nat.one_le_iff_ne_zero.mpr fun hk => ha (.inl (by rw [hk]))⟩
        | err => exact absurd (.inr rfl) ha
      by_cases hreq : k ≤ s.request
      · by_cases hrx : k ≤ s.rx.length
        · rw [exec_syncRead_of_fill hp hk hreq hrx, exec_syncRead_of_fill (s := s.withDiag es ks) hp hk hreq hrx]; rfl
        · have hrx := Nat.lt_of_not_le hrx
          rw [exec_syncRead_of_short hp hk hreq hrx, exec_syncRead_of_short (s := s.withDiag es ks) hp hk hreq hrx]; rfl
      · have hreq := Nat.lt_of_not_le hreq
        rw [exec_syncRead_of_gt hp hk hreq, exec_syncRead_of_gt (s := s.withDiag es ks) hp hk hreq]; rfl
  · rw [exec_syncRead_of_ne hp, exec_syncRead_of_ne (s := s.withDiag es ks) hp]; rfl

/-- A validation emits, so what was emitted before stays in front of its event. -/
theorem exec_syncValidate_withDiag (s : State) (es ks : List DiagEvent) :
    ∃ es' ks', exec .syncValidate (s.withDiag es ks) = mapNext (fun t => t.withDiag es' ks') (exec .syncValidate s) := by
  by_cases hp : s.phase = .validate
  · by_cases hl : s.len = 13
    · obtain ⟨w, -, hbytes⟩ := State.window_of_len hl
      have hw := hbytes.symm
      cases hm : markerOk w with
      | false =>
        rw [exec_syncValidate_of_marker hp hw hm, exec_syncValidate_of_marker (s := s.withDiag es ks) hp hw hm]
        exact ⟨_, _, rfl⟩
      | true =>
        cases hc : crcOk s.params w with
        | false =>
          rw [exec_syncValidate_of_crc hp hw hm hc, exec_syncValidate_of_crc (s := s.withDiag es ks) hp hw hm hc]
          exact ⟨_, _, rfl⟩
        | true =>
          have hv := (frameValid_iff _ _).mpr ⟨hm, hc⟩
          rw [exec_syncValidate_of_valid hp hw hv, exec_syncValidate_of_valid (s := s.withDiag es ks) hp hw hv]
          exact ⟨_, _, rfl⟩
    · rw [exec_syncValidate_of_len hp hl, exec_syncValidate_of_len (s := s.withDiag es ks) hp hl]
      exact ⟨es, ks, rfl⟩
  · rw [exec_syncValidate_of_ne hp, exec_syncValidate_of_ne (s := s.withDiag es ks) hp]
    exact ⟨es, ks, rfl⟩

theorem exec_syncShed_withDiag (es ks : List DiagEvent) :
    exec .syncShed (s.withDiag es ks) = mapNext (fun t => t.withDiag es ks) (exec .syncShed s) := by
  by_cases hl : s.len = 13
  · obtain ⟨w, hw, -⟩ := State.window_of_len hl
    rw [exec_syncShed_of_window hw, exec_syncShed_of_window (s := s.withDiag es ks) hw]; rfl
  · rw [exec_syncShed_of_len hl, exec_syncShed_of_len (s := s.withDiag es ks) hl]; rfl

theorem exec_syncDeliver_withDiag (es ks : List DiagEvent) :
    exec .syncDeliver (s.withDiag es ks) = mapNext (fun t => t.withDiag es ks) (exec .syncDeliver s) := by
  by_cases hp : s.phase = .deliver
  · by_cases hq : s.qlen < 5
    · by_cases hl : s.len = 13
      · obtain ⟨w, -, hbytes⟩ := State.window_of_len hl
        have hw := hbytes.symm
        rw [exec_syncDeliver_of_room hp hq hw, exec_syncDeliver_of_room (s := s.withDiag es ks) hp hq hw]; rfl
      · rw [exec_syncDeliver_of_len hp hq hl, exec_syncDeliver_of_len (s := s.withDiag es ks) hp hq hl]; rfl
    · have hq := Nat.le_of_not_lt hq
      rw [exec_syncDeliver_of_full hp hq, exec_syncDeliver_of_full (s := s.withDiag es ks) hp hq]; rfl
  · rw [exec_syncDeliver_of_ne hp, exec_syncDeliver_of_ne (s := s.withDiag es ks) hp]; rfl

theorem exec_qPush_withDiag (es ks : List DiagEvent) (f : Frame) :
    exec (.qPush f) (s.withDiag es ks) = mapNext (fun t => t.withDiag es ks) (exec (.qPush f) s) := by
  by_cases hq : s.qlen < 5
  · rw [exec_qPush_of_room hq, exec_qPush_of_room (s := s.withDiag es ks) hq]; rfl
  · have hq := Nat.le_of_not_lt hq
    rw [exec_qPush_of_full hq, exec_qPush_of_full (s := s.withDiag es ks) hq]; rfl

/-- Every operation goes the same way whatever was emitted and whatever the sink holds. -/
theorem exec_withDiag (s : State) (i : Instr) (es ks : List DiagEvent) :
    ∃ es' ks', exec i (s.withDiag es ks) = mapNext (fun t => t.withDiag es' ks') (exec i s) := by
  have host (hi : IsHost i) : ∃ es' ks', exec i (s.withDiag es ks) = mapNext (fun t => t.withDiag es' ks') (exec i s) :=
    ⟨es, ks, exec_alter id (fun _ => es) (fun _ => ks) hi⟩
  cases i with
  | frame13 | crc16 | encodeMsg | decodeFrame | send | crc16Update => exact host (.quiet (by constructor))
  | qPop | recv => exact host (.pop (by constructor))
  | start => exact host .start
  | stop => exact host .stop
  | reset => exact ⟨es, ks, exec_reset_withDiag es ks⟩
  | syncCheck a => exact ⟨es, ks, exec_syncCheck_withDiag es ks a⟩
  | syncRead a => exact ⟨es, ks, exec_syncRead_withDiag es ks a⟩
  | syncValidate => exact exec_syncValidate_withDiag s es ks
  | syncShed => exact ⟨es, ks, exec_syncShed_withDiag es ks⟩
  | syncDeliver => exact ⟨es, ks, exec_syncDeliver_withDiag es ks⟩
  | qPush f => exact ⟨es, ks, exec_qPush_withDiag es ks f⟩

/-- Settles O49. -/
theorem diagnosticsHaveNoInfluence : Obligations.DiagnosticsHaveNoInfluence := by
  intro s i es ks
  obtain ⟨es', ks', h⟩ := exec_withDiag s i es ks
  refine ⟨fun t ht => ⟨es', ks', ?_⟩, fun why hwhy => ?_, fun why hwhy => ?_⟩
  · rwa [ht] at h
  · rwa [hwhy] at h
  · rwa [hwhy] at h

end Sys2Proof.Machine
end

section
/-! PROOFS. `Deframe` (R132, R133): its three equations, that it depends only on the bytes in order, and resynchronization. -/

namespace Sys2Proof.Machine

variable {p : Params}

theorem deframe_short {b s : List Byte} (h : b.length + s.length < 13) : deframe p b s = ⟨[], b ++ s, 0⟩ :=
  deframeFuel_short p _ h

/-- A round with a whole window; the rounds left are enough for the rest. -/
theorem deframe_window {b s rest : List Byte} {w : Frame} (hb : b.length ≤ 12) (h : b ++ s = w.bytes ++ rest) :
    deframe p b s =
      if frameValid p w then
        ⟨w :: (deframe p [] rest).frames, (deframe p [] rest).leftover, (deframe p [] rest).shed⟩
      else
        ⟨(deframe p w.bytes.tail rest).frames, (deframe p w.bytes.tail rest).leftover,
          (deframe p w.bytes.tail rest).shed + 1⟩ := by
  have hrest : rest.length < s.length := by
    have := congrArg List.length h
    simp only [List.length_append, Frame.bytes_length] at this
    omega
  have hempty : deframeFuel p s.length [] rest = deframe p [] rest :=
    deframeFuel_enough p _ _ (by simp) hrest (Nat.lt_succ_self _)
  have htail : deframeFuel p s.length w.bytes.tail rest = deframe p w.bytes.tail rest :=
    deframeFuel_enough p _ _ (by simp) hrest (Nat.lt_succ_self _)
  rw [deframe, deframeFuel_window p s.length (by omega) h, hempty, htail]

theorem deframe_valid {b s rest : List Byte} {w : Frame} (hb : b.length ≤ 12) (h : b ++ s = w.bytes ++ rest)
    (hv : frameValid p w = true) :
    deframe p b s = ⟨w :: (deframe p [] rest).frames, (deframe p [] rest).leftover, (deframe p [] rest).shed⟩ := by
  rw [deframe_window hb h, if_pos hv]

theorem deframe_invalid {b s rest : List Byte} {w : Frame} (hb : b.length ≤ 12) (h : b ++ s = w.bytes ++ rest)
    (hv : frameValid p w = false) :
    deframe p b s = ⟨(deframe p w.bytes.tail rest).frames, (deframe p w.bytes.tail rest).leftover,
      (deframe p w.bytes.tail rest).shed + 1⟩ := by
  rw [deframe_window hb h, if_neg (by simp [hv])]

/-- Settles O50. -/
theorem deframeMeetsItsEquations : Obligations.DeframeMeetsItsEquations :=
  fun _ _ _ hb => ⟨deframe_short, fun _ _ h => ⟨deframe_valid hb h, deframe_invalid hb h⟩⟩

/-- Enough bytes have a first window. -/
theorem exists_window {l : List Byte} (h : 13 ≤ l.length) : ∃ w rest, l = Frame.bytes w ++ rest ∧ w.bytes = l.take 13 := by
  obtain ⟨w, -, hw⟩ := frameOfBytes_of_length (List.length_take_of_le h)
  exact ⟨w, l.drop 13, by rw [hw, List.take_append_drop], hw⟩

/-- Where the buffer ends and the stream begins does not matter (R50). -/
theorem deframe_eq_of_append {b s b' s' : List Byte} (hb : b.length ≤ 12) (hb' : b'.length ≤ 12) (h : b ++ s = b' ++ s') :
    deframe p b s = deframe p b' s' := by
  have hlen := congrArg List.length h
  simp only [List.length_append] at hlen
  by_cases hshort : b.length + s.length < 13
  · rw [deframe_short hshort, deframe_short (by omega), h]
  · obtain ⟨w, rest, hw, -⟩ := exists_window (l := b ++ s) (by simp; omega)
    rw [deframe_window hb hw, deframe_window hb' (h ▸ hw)]

/-- A stray byte in front is shed, if the window it begins is not valid. -/
theorem deframe_cons {c : Byte} {x : List Byte} {w : Frame} (hw : w.bytes = (c :: x).take 13) (hv : frameValid p w = false) :
    deframe p [] (c :: x) = ⟨(deframe p [] x).frames, (deframe p [] x).leftover, (deframe p [] x).shed + 1⟩ := by
  have hsplit : c :: x = w.bytes ++ (c :: x).drop 13 := by rw [hw, List.take_append_drop]
  have htail : w.bytes.tail ++ (c :: x).drop 13 = [] ++ x := by rw [hw]; simp
  rw [deframe_invalid (by simp) hsplit hv, deframe_eq_of_append (by simp) (by simp) htail]

/-- Valid frames one after another are delivered, with nothing shed and nothing left. -/
theorem deframe_streamOf {fs : List Frame} (hvalid : ∀ f ∈ fs, frameValid p f = true) :
    deframe p [] (streamOf fs) = ⟨fs, [], 0⟩ := by
  induction fs with
  | nil => exact deframe_short (by simp [streamOf])
  | cons f fs ih =>
    have hstream : [] ++ streamOf (f :: fs) = f.bytes ++ streamOf fs := rfl
    rw [deframe_valid (by simp) hstream (hvalid f (by simp)), ih fun f' hf' => hvalid f' (by simp [hf'])]

theorem length_streamOf (fs : List Frame) : (streamOf fs).length = 13 * fs.length := by
  induction fs with
  | nil => rfl
  | cons f fs ih =>
    have hstream : streamOf (f :: fs) = f.bytes ++ streamOf fs := rfl
    rw [hstream, List.length_append, ih, Frame.bytes_length, List.length_cons]
    omega

/-- Stray bytes in front of valid frames are shed one by one (R132). -/
theorem deframe_stray {junk : List Byte} {fs : List Frame} (hne : fs ≠ []) (hvalid : ∀ f ∈ fs, frameValid p f = true)
    (hstray : ∀ k < junk.length, ∀ w : Frame, w.bytes = ((junk ++ streamOf fs).drop k).take 13 → frameValid p w = false) :
    deframe p [] (junk ++ streamOf fs) = ⟨fs, [], junk.length⟩ := by
  induction junk with
  | nil => exact deframe_streamOf hvalid
  | cons c junk ih =>
    have hlen : 13 ≤ (streamOf fs).length := by
      have := List.length_pos_iff.mpr hne
      rw [length_streamOf]
      omega
    obtain ⟨w, -, -, hw⟩ := exists_window (l := c :: (junk ++ streamOf fs)) (by simp; omega)
    have hv := hstray 0 (by simp) w hw
    have hih := ih fun k hk => hstray (k + 1) (by simpa using hk)
    rw [List.cons_append, deframe_cons hw hv, hih]
    rfl

/-- Settles O51: the cut between buffer and stream does not matter, and then the stray bytes are shed one by one. -/
theorem resyncShedsOnlyTheStrayBytes : Obligations.ResyncShedsOnlyTheStrayBytes := by
  intro p b s junk fs hb hne hvalid hbytes hstray
  rw [hbytes] at hstray
  rw [deframe_eq_of_append (b' := []) hb (by simp) hbytes]
  exact deframe_stray hne hvalid hstray

end Sys2Proof.Machine
end

section
/-! PROOFS. The loop with a consumer that always pops delivers what `Deframe` does (R50, R120, R133): what one outer iteration comes
to, and the induction over the cuts. -/

namespace Sys2Proof.Machine

variable {s : State}

/-! ## One outer iteration -/

/-- Where the loop stands between two iterations, when the consumer has popped everything. -/
structure Ready (s : State) : Prop where
  phase_eq : s.phase = .check
  run_eq : s.run = true
  q_eq : s.q = []
  len_le : s.len ≤ 12

/-- The state in which the read is outstanding. -/
def State.reading (s : State) : State := (s.setPhase .read).done .unit

/-- The state after a read of `k` bytes. -/
def State.afterRead (s : State) (k : Nat) : State := (s.reading.fill k).done .unit

theorem afterRead_buf (s : State) (k : Nat) : (s.afterRead k).buf = s.buf ++ s.rx.take k := rfl

theorem afterRead_phase {k : Nat} (hrx : k ≤ s.rx.length) :
    (s.afterRead k).phase = if s.len + k = 13 then .validate else .check := by
  have hlen : (s.reading.append k).len = s.len + k := State.len_append_of_le (s := s.reading) hrx
  have hphase : (s.afterRead k).phase = if (s.reading.append k).len = 13 then .validate else .check := rfl
  rw [hphase, hlen]

/-- An admissible answer is empty, an error, or some of the next bytes, no more than were asked for (R44). -/
theorem answerOfCut_cases (s : State) (cut : Option Nat) :
    (answerOfCut s cut = .rx 0 ∨ answerOfCut s cut = .err) ∨
    ∃ k, answerOfCut s cut = .rx k ∧ 1 ≤ k ∧ k ≤ s.request ∧ k ≤ s.rx.length := by
  cases cut with
  | none => exact .inl (.inr rfl)
  | some k =>
    by_cases h : min k (min s.request s.rx.length) = 0
    · exact .inl (.inl (by rw [answerOfCut, h]))
    · exact .inr ⟨_, rfl, by omega, by omega, by omega⟩

theorem outerIteration_eq (h : Ready s) (a : ReadAnswer) :
    outerIteration a s =
      andThen (exec (.syncRead a) s.reading) fun u =>
        andThen (inPhase .validate .syncValidate u) (inPhase .deliver .syncDeliver) := by
  rw [outerIteration, exec_syncCheck_of_open h.phase_eq h.run_eq, andThen_next,
    inPhase_of_eq (p := .read) (s := (s.setPhase .read).done .unit) rfl]
  rfl

theorem outerIteration_of_retry (h : Ready s) {a : ReadAnswer} (ha : a = .rx 0 ∨ a = .err) :
    outerIteration a s = .next ((s.reading.setPhase .check).done .unit) := by
  rw [outerIteration_eq h, exec_syncRead_of_retry rfl ha, andThen_next, inPhase_of_ne (by simp), andThen_next,
    inPhase_of_ne (by simp)]

theorem outerIteration_of_fill (h : Ready s) {k : Nat} (hk : 1 ≤ k) (hreq : k ≤ s.request) (hrx : k ≤ s.rx.length) :
    outerIteration (.rx k) s =
      andThen (inPhase .validate .syncValidate (s.afterRead k)) (inPhase .deliver .syncDeliver) := by
  rw [outerIteration_eq h, exec_syncRead_of_fill (s := s.reading) rfl hk hreq hrx, andThen_next]
  rfl

theorem exec_syncValidate_of_invalid (hp : s.phase = .validate) {w : Frame} (hw : s.buf = w.bytes)
    (hv : frameValid s.params w = false) :
    ∃ kind, exec .syncValidate s = .next ((s.emit (.reject w kind)).shed.done .unit) := by
  cases hm : markerOk w with
  | false => exact ⟨_, exec_syncValidate_of_marker hp hw hm⟩
  | true => exact ⟨_, exec_syncValidate_of_crc hp hw hm (by simpa [frameValid, hm] using hv)⟩

/-- After a rejected window the iteration is over: nothing is delivered. -/
theorem iteration_of_invalid (hp : s.phase = .validate) {w : Frame} (hw : s.buf = w.bytes)
    (hv : frameValid s.params w = false) :
    ∃ kind, andThen (inPhase .validate .syncValidate s) (inPhase .deliver .syncDeliver) =
      .next ((s.emit (.reject w kind)).shed.done .unit) := by
  obtain ⟨kind, hexec⟩ := exec_syncValidate_of_invalid hp hw hv
  refine ⟨kind, ?_⟩
  rw [inPhase_of_eq hp, hexec, andThen_next, inPhase_of_ne (by simp)]

/-- The state after a valid window was accepted and delivered. -/
def State.afterDelivery (s : State) (w : Frame) : State :=
  ((((s.emit (.accept w)).setPhase .deliver).done .unit).deliver w).done .unit

theorem iteration_of_valid (hp : s.phase = .validate) {w : Frame} (hw : s.buf = w.bytes)
    (hv : frameValid s.params w = true) (hq : s.qlen < 5) :
    andThen (inPhase .validate .syncValidate s) (inPhase .deliver .syncDeliver) = .next (s.afterDelivery w) := by
  rw [inPhase_of_eq hp, exec_syncValidate_of_valid hp hw hv, andThen_next,
    inPhase_of_eq (p := .deliver) (s := ((s.emit (.accept w)).setPhase .deliver).done .unit) rfl]
  exact exec_syncDeliver_of_room (s := ((s.emit (.accept w)).setPhase .deliver).done .unit) rfl hq hw

/-! ## The consumer -/

theorem serveOnce_of_empty {cut : Option Nat} {t : State} (h : outerIteration (answerOfCut s cut) s = .next t)
    (hq : t.q = []) : serveOnce cut s = some ([], t) := by
  simp [serveOnce, h, State.qlen, hq]

theorem serveOnce_of_cons {cut : Option Nat} {t : State} (h : outerIteration (answerOfCut s cut) s = .next t)
    {f : Frame} {rest : List Frame} (hq : t.q = f :: rest) :
    serveOnce cut s = some ([f], State.done { t with q := rest } (.frame f)) := by
  have hpop : exec (.qPop .block .fresh) t = .next (State.done { t with q := rest } (.frame f)) :=
    popCall_of_cons (mayRun_fresh t .pop .block) hq
  have hlen : t.qlen ≠ 0 := by simp [State.qlen, hq]
  simp only [serveOnce, h, hlen, if_false, hpop, State.done_outcome]

/-! ## The loop against `Deframe` -/

/-- From `s` to `t` the loop read `bytes`, emitted `events` and delivered `fs`, as `Deframe` does with these bytes, whatever
comes after them. -/
structure Serves (s t : State) (fs : List Frame) (bytes : List Byte) (events : List DiagEvent) : Prop where
  ready : Ready t
  params_eq : t.params = s.params
  rx_eq : s.rx = bytes ++ t.rx
  emitted_eq : t.emitted = s.emitted ++ events
  deframe_eq : ∀ more, deframe s.params s.buf (bytes ++ more) =
    ⟨fs ++ (deframe s.params t.buf more).frames, (deframe s.params t.buf more).leftover,
      (deframe s.params t.buf more).shed + events.countP DiagEvent.isReject⟩

theorem Serves.refl (h : Ready s) : Serves s s [] [] [] :=
  ⟨h, rfl, rfl, (List.append_nil _).symm, fun _ => rfl⟩

theorem Serves.trans {t u : State} {fs gs : List Frame} {bytes bytes' : List Byte} {events events' : List DiagEvent}
    (h : Serves s t fs bytes events) (h' : Serves t u gs bytes' events') :
    Serves s u (fs ++ gs) (bytes ++ bytes') (events ++ events') where
  ready := h'.ready
  params_eq := h'.params_eq.trans h.params_eq
  rx_eq := by rw [h.rx_eq, h'.rx_eq, List.append_assoc]
  emitted_eq := by rw [h'.emitted_eq, h.emitted_eq, List.append_assoc]
  deframe_eq more := by
    have hmore := h'.deframe_eq more
    rw [h.params_eq] at hmore
    rw [List.append_assoc, h.deframe_eq, hmore, List.append_assoc, List.countP_append]
    simp only [Deframed.mk.injEq, true_and]
    omega

theorem rx_eq_take_append (s : State) (k : Nat) : s.rx = s.rx.take k ++ (s.afterRead k).rx :=
  (List.take_append_drop k s.rx).symm

/-- A read that does not fill the window moves bytes from the stream to the buffer. -/
theorem serves_afterRead (h : Ready s) {k : Nat} (hreq : k ≤ s.request) (hrx : k ≤ s.rx.length) (hnot : s.len + k ≠ 13) :
    Serves s (s.afterRead k) [] (s.rx.take k) [] := by
  have hlen : (s.afterRead k).len = s.len + k := State.fill_len (s := s.reading) hrx
  have hreq' : k ≤ 13 - s.len := hreq
  have hle : (s.afterRead k).len ≤ 12 := by
    have := h.len_le
    omega
  refine ⟨⟨by rw [afterRead_phase hrx, if_neg hnot], h.run_eq, h.q_eq, hle⟩, rfl, rx_eq_take_append s k,
    (List.append_nil _).symm, fun more => ?_⟩
  have hbytes : s.buf ++ (s.rx.take k ++ more) = (s.afterRead k).buf ++ more := by
    rw [afterRead_buf, List.append_assoc]
  rw [deframe_eq_of_append h.len_le hle hbytes]
  rfl

/-- A rejected window is a round of `Deframe` that sheds (R125). -/
theorem serves_reject (h : Ready s) {k : Nat} {w : Frame} (hw : (s.afterRead k).buf = w.bytes)
    (hv : frameValid s.params w = false) (kind : ErrorKind) :
    Serves s (((s.afterRead k).emit (.reject w kind)).shed.done .unit) [] (s.rx.take k) [.reject w kind] := by
  have hbuf : (((s.afterRead k).emit (.reject w kind)).shed.done .unit).buf = w.bytes.tail := by simp [hw]
  refine ⟨⟨rfl, h.run_eq, h.q_eq, by simp [State.len, hw]⟩, rfl, rx_eq_take_append s k, rfl, fun more => ?_⟩
  have hbytes : s.buf ++ (s.rx.take k ++ more) = w.bytes ++ more := by rw [← hw, afterRead_buf, List.append_assoc]
  rw [hbuf, deframe_invalid h.len_le hbytes hv]
  rfl

/-- A valid window is a round of `Deframe` that delivers, and the consumer pops it (R126, R152). -/
theorem serves_deliver (h : Ready s) {k : Nat} {w : Frame} (hw : (s.afterRead k).buf = w.bytes)
    (hv : frameValid s.params w = true) :
    Serves s (State.done { (s.afterRead k).afterDelivery w with q := [] } (.frame w)) [w] (s.rx.take k) [.accept w] := by
  refine ⟨⟨rfl, h.run_eq, rfl, Nat.zero_le _⟩, rfl, rx_eq_take_append s k, rfl, fun more => ?_⟩
  have hbytes : s.buf ++ (s.rx.take k ++ more) = w.bytes ++ more := by rw [← hw, afterRead_buf, List.append_assoc]
  rw [deframe_valid h.len_le hbytes hv]
  rfl

/-- One iteration with its pop is a round of `Deframe`, or a read on the way to one. -/
theorem serveOnce_serves (h : Ready s) (cut : Option Nat) :
    ∃ fs t bytes events, serveOnce cut s = some (fs, t) ∧ Serves s t fs bytes events := by
  rcases answerOfCut_cases s cut with ha | ⟨k, ha, hk, hreq, hrx⟩
  · have hiter := outerIteration_of_retry h ha
    exact ⟨[], _, [], [], serveOnce_of_empty hiter h.q_eq, { Serves.refl h with ready := { h with phase_eq := rfl } }⟩
  have hiter := outerIteration_of_fill h hk hreq hrx
  rw [← ha] at hiter
  by_cases hfull : s.len + k = 13
  · have hphase : (s.afterRead k).phase = .validate := by rw [afterRead_phase hrx, if_pos hfull]
    have hlen : (s.afterRead k).len = 13 := (State.fill_len (s := s.reading) hrx).trans hfull
    obtain ⟨w, -, hbytes⟩ := State.window_of_len hlen
    have hw := hbytes.symm
    cases hv : frameValid s.params w with
    | false =>
      obtain ⟨kind, hinvalid⟩ := iteration_of_invalid hphase hw hv
      exact ⟨_, _, _, _, serveOnce_of_empty (hiter.trans hinvalid) h.q_eq, serves_reject h hw hv kind⟩
    | true =>
      have hroom : (s.afterRead k).qlen < 5 := by
        have hq : (s.afterRead k).q = [] := h.q_eq
        simp [State.qlen, hq]
      have hq : ((s.afterRead k).afterDelivery w).q = w :: [] := by
        show s.q ++ [w] = [w]
        rw [h.q_eq]
        rfl
      have hvalid := iteration_of_valid hphase hw hv hroom
      exact ⟨_, _, _, _, serveOnce_of_cons (hiter.trans hvalid) hq, serves_deliver h hw hv⟩
  · have hphase : (s.afterRead k).phase = .check := by rw [afterRead_phase hrx, if_neg hfull]
    rw [inPhase_of_ne (by simp [hphase]), andThen_next, inPhase_of_ne (by simp [hphase])] at hiter
    exact ⟨_, _, _, _, serveOnce_of_empty hiter h.q_eq, serves_afterRead h hreq hrx hfull⟩

theorem serve_serves (h : Ready s) (cuts : List (Option Nat)) :
    ∃ fs t bytes events, serve cuts s = some (fs, t) ∧ Serves s t fs bytes events := by
  induction cuts generalizing s with
  | nil => exact ⟨[], s, [], [], rfl, .refl h⟩
  | cons cut cuts ih =>
    obtain ⟨fs, t, bytes, events, honce, hserves⟩ := serveOnce_serves h cut
    obtain ⟨gs, u, bytes', events', hrest, hserves'⟩ := ih hserves.ready
    exact ⟨fs ++ gs, u, bytes ++ bytes', events ++ events', by simp only [serve, honce, hrest], hserves.trans hserves'⟩

/-- Settles O52, by induction over the cuts: with nothing to come, what is left over is the buffer. -/
theorem loopDeliversDeframe : Obligations.LoopDeliversDeframe := by
  intro s cuts hp hr hq hl
  obtain ⟨fs, t, bytes, events, hserve, h⟩ := serve_serves ⟨hp, hr, hq, hl⟩ cuts
  refine ⟨fs, t, bytes, events, hserve, h.ready.phase_eq, h.ready.q_eq, h.rx_eq, h.emitted_eq, ?_⟩
  have hdeframe := h.deframe_eq []
  have hlen : t.buf.length ≤ 12 := h.ready.len_le
  rw [deframe_short (b := t.buf) (by simp; omega)] at hdeframe
  simpa using hdeframe

/-! ## End to end -/

theorem execAll_cons_of_next {i : Instr} {is : List Instr} {t : State} (h : exec i s = .next t) :
    execAll (i :: is) s = execAll is t := by
  rw [execAll_cons, h, andThen_next]

/-- The four steps of the loop take a valid frame, alone in the stream, into the queue. -/
theorem execAll_window (hp : s.phase = .check) (hr : s.run = true) (hbuf : s.buf = []) (hq : s.qlen < 5) {w : Frame}
    (hrx : s.rx = w.bytes) (hv : frameValid s.params w = true) (is : List Instr) :
    execAll (.syncCheck .isOpen :: .syncRead (.rx 13) :: .syncValidate :: .syncDeliver :: is) s =
      execAll is ((s.afterRead 13).afterDelivery w) := by
  have hlen : s.len = 0 := by rw [State.len, hbuf]; rfl
  have hrequest : s.request = 13 := by rw [State.request, hlen]; rfl
  have henough : 13 ≤ s.rx.length := by rw [hrx, Frame.bytes_length]
  have hw : (s.afterRead 13).buf = w.bytes := by rw [afterRead_buf, hbuf, hrx]; rfl
  have hphase : (s.afterRead 13).phase = .validate := by rw [afterRead_phase henough, hlen]; rfl
  have hcheck : exec (.syncCheck .isOpen) s = .next s.reading := exec_syncCheck_of_open hp hr
  have hread : exec (.syncRead (.rx 13)) s.reading = .next (s.afterRead 13) :=
    exec_syncRead_of_fill rfl (by decide) hrequest.ge henough
  have hvalidate := exec_syncValidate_of_valid hphase hw hv
  have hdeliver := exec_syncDeliver_of_room
    (s := (((s.afterRead 13).emit (.accept w)).setPhase .deliver).done .unit) rfl hq hw
  rw [execAll_cons_of_next hcheck, execAll_cons_of_next hread, execAll_cons_of_next hvalidate,
    execAll_cons_of_next hdeliver]
  rfl

/-- The transport carries a frame that has the marker by a step of its fields (log entry 3). -/
theorem exec_frame13_fields {w : Frame} (h : markerOk w = true) :
    exec (.frame13 w.fields) s = .next ((s.arrive w.bytes).done .unit) := by
  show Host.Outcome.next ((s.arrive w.fields.toFrame.bytes).done .unit) = _
  rw [Encoding.toFrame_fields h]

/-- Settles O53: the encoded frame is valid, so the loop queues it, and its message is the one it was encoded from. -/
theorem encodedMessageIsReceived : Obligations.EncodedMessageIsReceived := by
  intro s identifier r e payload hid hshort hp hr hbuf hrx hq
  have hencode := Encoding.exec_encodeMsg_of_le s hid r e payload
  have hmessage := Encoding.messageOf_encodedFrame s.params identifier r e hshort
  have hvalid := Encoding.frameValid_encodedFrame s.params identifier r e payload
  rw [Encoding.truncatedFlag_of_le hshort] at hencode
  generalize Encoding.encodedFrame s.params identifier r e payload = f at hencode hmessage hvalid
  obtain ⟨hmarker, -⟩ := (frameValid_iff _ _).mp hvalid
  have harrived : ((s.arrive f.bytes).done .unit).rx = f.bytes := by simp [hrx]
  have hroom : ((s.arrive f.bytes).done .unit).qlen < 5 := by simp [State.qlen, hq]
  have hqueued : ((((s.arrive f.bytes).done .unit).afterRead 13).afterDelivery f).q = [f] := by
    show s.q ++ [f] = [f]
    rw [hq]
    rfl
  have hrecv := exec_recv_of_cons (mayRun_fresh _ .recv .block) hqueued hvalid
  have hrun := (execAll_cons_of_next (exec_frame13_fields (s := s) hmarker)).trans
    ((execAll_window (s := (s.arrive f.bytes).done .unit) hp hr hbuf hroom harrived hvalid _).trans
      (execAll_cons_of_next (is := []) hrecv))
  refine ⟨f, _, hencode, hrun, ?_, rfl, rfl, ?_, rfl⟩
  · rw [← hmessage]
    rfl
  · show ((s.arrive f.bytes).done .unit).rx.drop 13 = []
    rw [harrived]
    rfl

end Sys2Proof.Machine
end
